-- ==== Sys2Proof/Word.lean ====
section
/-! DEFINITION. The widths of the block: 00_scope.md R5 (16-bit registers, 8-bit bytes and table
indices) and 30_encoding.md R70, R82 (32-bit command words, 4-bit context numbers and selectors). -/

namespace Sys2Proof

/-- A 16-bit value: a CRC register, a parameter, a table entry or a checksum (00_scope.md R5). -/
abbrev Word := BitVec 16

/-- One input byte, or a table index (00_scope.md R5). -/
abbrev Byte := BitVec 8

/-- A 32-bit command word, or a 32-bit response value (30_encoding.md R70, R80). -/
abbrev Command := BitVec 32

/-- A 4-bit context number, the CTX field (30_encoding.md R82). -/
abbrev CtxNum := BitVec 4

/-- A 4-bit register selector, the SEL field of RDCR (30_encoding.md R79). -/
abbrev Sel := BitVec 4

end Sys2Proof
end

