-- ==== Sys2Proof/Syntax.lean ====
section
/-! DEFINITION. The fourteen commands of spec/opcode_table.json, one constructor each, in the table's
order. Operands are the fields of 30_encoding.md R72 to R79, already pulled out of the word. -/

namespace Sys2Proof

/-- One command of the block (30_encoding.md R71). -/
inductive Instr where
  /-- SETPOLY imm16 (40_configuration.md R100). -/
  | setpoly (imm16 : Word)
  /-- SETINIT imm16 (40_configuration.md R101). -/
  | setinit (imm16 : Word)
  /-- SETXOR imm16 (40_configuration.md R102). -/
  | setxor (imm16 : Word)
  /-- SETCHK imm16 (40_configuration.md R103). -/
  | setchk (imm16 : Word)
  /-- SETREF ri, ro: reflectInput, then reflectOutput (40_configuration.md R104). -/
  | setref (ri ro : Bool)
  /-- BUILD (40_configuration.md R114). -/
  | build
  /-- INIT ctx (41_crc_datapath.md R133). -/
  | init (ctx : CtxNum)
  /-- UPDB ctx, byte (41_crc_datapath.md R136). -/
  | updb (ctx : CtxNum) (byte : Byte)
  /-- FIN ctx (41_crc_datapath.md R141). -/
  | fin (ctx : CtxNum)
  /-- RDREG ctx (42_access.md R170). -/
  | rdreg (ctx : CtxNum)
  /-- WRREG ctx, imm16 (42_access.md R172). -/
  | wrreg (ctx : CtxNum) (imm16 : Word)
  /-- TBLRD idx (42_access.md R174). -/
  | tblrd (idx : Byte)
  /-- SELFTEST (41_crc_datapath.md R146). -/
  | selftest
  /-- RDCR sel (42_access.md R176). -/
  | rdcr (sel : Sel)
  deriving DecidableEq, Repr

end Sys2Proof
end

