-- ==== Sys2Proof/WellFormed.lean ====
section
/-! DEFINITION. Which commands have a legal encoding. The field widths are in the types, so the one
check left is RDCR's selector (30_encoding.md R79, R86). A context number at or above NCTX is legal as
an encoding and fails as an operand (R87), so it is no check here. -/

namespace Sys2Proof

/-- The command has a legal encoding (30_encoding.md R83). -/
def Instr.wf : Instr → Bool
  | .setpoly _ => true
  | .setinit _ => true
  | .setxor _ => true
  | .setchk _ => true
  | .setref _ _ => true
  | .build => true
  | .init _ => true
  | .updb _ _ => true
  | .fin _ => true
  | .rdreg _ => true
  | .wrreg _ _ => true
  | .tblrd _ => true
  | .selftest => true
  | .rdcr sel => decide (sel.toNat ≤ 12)

/-- `Instr.wf` as a proposition. -/
abbrev Instr.WellFormed (i : Instr) : Prop := i.wf = true

end Sys2Proof
end

