-- ==== Sys2Proof/Decode.lean ====
section
/-! DEFINITION. Decoding a command word, encoding a command, and the spec's own legality test
(30_encoding.md). `w.extractLsb' lo len` is the spec's slice cmd[lo+len-1:lo] (00_scope.md R9). -/

namespace Sys2Proof

/-- Why a word is refused; each of the three is ILLEGAL (60_exceptions.md R201). -/
inductive DecodeError where
  /-- OP = 0x0 or 0xF (30_encoding.md R84). -/
  | reservedOp
  /-- A bit marked "reserved, must be 0" is set (30_encoding.md R85). -/
  | reservedBits
  /-- RDCR with SEL = 13, 14 or 15 (30_encoding.md R86). -/
  | reservedSel
  deriving DecidableEq, Repr

/-- OP = cmd[31:28] (30_encoding.md R70). -/
def opField (w : Command) : BitVec 4 := w.extractLsb' 28 4

/-- IMM16 = cmd[15:0] (30_encoding.md R73, R77). -/
def imm16Field (w : Command) : Word := w.extractLsb' 0 16

/-- CTX = cmd[27:24] (30_encoding.md R75 to R77). -/
def ctxField (w : Command) : CtxNum := w.extractLsb' 24 4

/-- BYTE = cmd[7:0] of format CB, IDX = cmd[7:0] of format X (30_encoding.md R76, R78). -/
def byteField (w : Command) : Byte := w.extractLsb' 0 8

/-- SEL = cmd[3:0] (30_encoding.md R79). -/
def selField (w : Command) : Sel := w.extractLsb' 0 4

/-- RI = cmd[0] (30_encoding.md R74). -/
def riField (w : Command) : Bool := w.getLsbD 0

/-- RO = cmd[1] (30_encoding.md R74). -/
def roField (w : Command) : Bool := w.getLsbD 1

/-- A word whose reserved bits must all be 0 (30_encoding.md R85). -/
def withReserved (zero : Bool) (i : Instr) : Except DecodeError Instr :=
  if zero then .ok i else .error .reservedBits

/-- Format I: cmd[27:16] is reserved (30_encoding.md R73). -/
def decodeI (w : Command) (f : Word → Instr) : Except DecodeError Instr :=
  withReserved (w.extractLsb' 16 12 == 0) (f (imm16Field w))

/-- Format F: cmd[27:2] is reserved (30_encoding.md R74). -/
def decodeF (w : Command) (f : Bool → Bool → Instr) : Except DecodeError Instr :=
  withReserved (w.extractLsb' 2 26 == 0) (f (riField w) (roField w))

/-- Format N: cmd[27:0] is reserved (30_encoding.md R72). -/
def decodeN (w : Command) (i : Instr) : Except DecodeError Instr :=
  withReserved (w.extractLsb' 0 28 == 0) i

/-- Format C: cmd[23:0] is reserved (30_encoding.md R75). -/
def decodeC (w : Command) (f : CtxNum → Instr) : Except DecodeError Instr :=
  withReserved (w.extractLsb' 0 24 == 0) (f (ctxField w))

/-- Format CB: cmd[23:8] is reserved (30_encoding.md R76). -/
def decodeCB (w : Command) (f : CtxNum → Byte → Instr) : Except DecodeError Instr :=
  withReserved (w.extractLsb' 8 16 == 0) (f (ctxField w) (byteField w))

/-- Format CI: cmd[23:16] is reserved (30_encoding.md R77). -/
def decodeCI (w : Command) (f : CtxNum → Word → Instr) : Except DecodeError Instr :=
  withReserved (w.extractLsb' 16 8 == 0) (f (ctxField w) (imm16Field w))

/-- Format X: cmd[27:8] is reserved (30_encoding.md R78). -/
def decodeX (w : Command) (f : Byte → Instr) : Except DecodeError Instr :=
  withReserved (w.extractLsb' 8 20 == 0) (f (byteField w))

/-- Format S: cmd[27:4] is reserved, and SEL is at most 12 (30_encoding.md R79, R86). -/
def decodeS (w : Command) (f : Sel → Instr) : Except DecodeError Instr :=
  if (selField w).toNat ≤ 12 then withReserved (w.extractLsb' 4 24 == 0) (f (selField w))
  else .error .reservedSel

/-- The opcode map of 30_encoding.md R71: OP alone selects the command and its format. -/
def decode (w : Command) : Except DecodeError Instr :=
  match (opField w).toNat with
  | 0x1 => decodeI w .setpoly
  | 0x2 => decodeI w .setinit
  | 0x3 => decodeI w .setxor
  | 0x4 => decodeI w .setchk
  | 0x5 => decodeF w .setref
  | 0x6 => decodeN w .build
  | 0x7 => decodeC w .init
  | 0x8 => decodeCB w .updb
  | 0x9 => decodeC w .fin
  | 0xA => decodeC w .rdreg
  | 0xB => decodeCI w .wrreg
  | 0xC => decodeX w .tblrd
  | 0xD => decodeN w .selftest
  | 0xE => decodeS w .rdcr
  | _ => .error .reservedOp

/-- The word at `op` in bits 31..28 with `low` in bits 27..0. -/
def opWord (op : BitVec 4) (low : BitVec 28) : Command := op ++ low

/-- The inverse of the formats (30_encoding.md R88), fields laid out as in R72 to R79. -/
def encode : Instr → Command
  | .setpoly v => opWord 0x1 (0#12 ++ v)
  | .setinit v => opWord 0x2 (0#12 ++ v)
  | .setxor v => opWord 0x3 (0#12 ++ v)
  | .setchk v => opWord 0x4 (0#12 ++ v)
  | .setref ri ro => opWord 0x5 (0#26 ++ BitVec.ofBool ro ++ BitVec.ofBool ri)
  | .build => opWord 0x6 0
  | .init n => opWord 0x7 (n ++ 0#24)
  | .updb n b => opWord 0x8 (n ++ 0#16 ++ b)
  | .fin n => opWord 0x9 (n ++ 0#24)
  | .rdreg n => opWord 0xA (n ++ 0#24)
  | .wrreg n v => opWord 0xB (n ++ 0#8 ++ v)
  | .tblrd n => opWord 0xC (0#20 ++ n)
  | .selftest => opWord 0xD 0
  | .rdcr s => opWord 0xE (0#24 ++ s)

/-- legal(cmd), the decode-validity test of 30_encoding.md R83, case by case as the rule writes it.
`decode` does not use it: that the two agree is a statement. -/
def legal (w : Command) : Bool :=
  match (opField w).toNat with
  | 0x1 | 0x2 | 0x3 | 0x4 => w.extractLsb' 16 12 == 0
  | 0x5 => w.extractLsb' 2 26 == 0
  | 0x6 | 0xD => w.extractLsb' 0 28 == 0
  | 0x7 | 0x9 | 0xA => w.extractLsb' 0 24 == 0
  | 0x8 => w.extractLsb' 8 16 == 0
  | 0xB => w.extractLsb' 16 8 == 0
  | 0xC => w.extractLsb' 8 20 == 0
  | 0xE => w.extractLsb' 4 24 == 0 && decide ((w.extractLsb' 0 4).toNat ≤ 12)
  | _ => false

/-- The command word whose bits are `w`, of which the table gives the low `nbits`. The block takes a
word as one unit, with no byte order (20_memory.md R56; log entry 11). -/
def tableWord (nbits w : Nat) : Command := BitVec.ofNat 32 (w % 2 ^ nbits)

/-- The command the decoder reads from a word numbered as spec/opcode_table.json numbers it. -/
def decodeTableWord (nbits w : Nat) : Option Instr :=
  match decode (tableWord nbits w) with
  | .ok i => some i
  | .error _ => none

end Sys2Proof
end

