-- ==== Sys2Proof/Config.lean ====
section
/-! DEFINITION. What an implementation fixes (NCTX) and the values the spec leaves open (the table
and the context registers after reset). The free values have no body: nothing can be proved of them. -/

namespace Sys2Proof

/-- NCTX at `State.reset`: the reference value of 00_scope.md R7. The model itself takes NCTX from the
number of contexts a state holds, so statements over every state hold for every NCTX (log entry 5). -/
def Config.nctx : Nat := 4

/-- TABLE after the k-th reset: "unspecified", "any value" (10_state.md R37). DESIGN CHOICE, log entry 6. -/
opaque Config.resetTable : Nat → Vector Word 256

/-- C[i] after the k-th reset, as `resetContext k i`: "holds no value" (10_state.md R38); no command reads
it while VALID[i] = 0. DESIGN CHOICE, log entry 7. -/
opaque Config.resetContext : Nat → Nat → Word

end Sys2Proof
end

