-- ==== Sys2Proof/Machine/State.lean ====
section
/-! DEFINITION. The state of the block, the complete record of 10_state.md R34, with the command port
and the responses returned beside it; the responses; the reasons a step can stop; the state after reset. -/

namespace Sys2Proof.Machine

/-- The error codes carried in the response STATUS field and in ERRCODE (60_exceptions.md R200).
Codes 5 to 15 are never produced, so the type leaves them out. -/
inductive ErrCode where
  /-- 0: OK in a response, NONE in ERRCODE. -/
  | ok
  /-- 1: an undecodable word (R201). -/
  | illegal
  /-- 2: CTX >= NCTX (R204). -/
  | badctx
  /-- 3: the command needs an engine and BUILT = 0 (R202). -/
  | notbuilt
  /-- 4: the command reads a context that holds no value (R203). -/
  | uninit
  deriving DecidableEq, Repr

/-- The response to one command (30_encoding.md R80). -/
structure Response where
  /-- STATUS, an error code; 0 = OK. -/
  status : ErrCode
  /-- MATCH, 1 only for a successful SELFTEST whose result equals ENG_CHECK. -/
  matchBit : Bool
  /-- DATA, the result zero-extended, or 0. -/
  data : BitVec 32
  deriving DecidableEq, Repr

/-- One context: the register C[i] with its VALID[i] bit (00_scope.md R14, 10_state.md R22, R23).
While `valid` is false no command reads `value`. -/
structure Context where
  value : Word
  valid : Bool
  deriving DecidableEq, Repr

/-- What the host may do to the block (70_reset_and_hazards.md R248). -/
inductive HostAction where
  /-- Present a 32-bit command word. -/
  | command (w : Command)
  /-- Apply reset. A command in progress at that moment, if there is one, is abandoned (R230). -/
  | reset (abandoned : Option Command)
  deriving DecidableEq, Repr

/-- The state: 10_state.md R34, then the three fields that are the model's own. -/
structure State where
  /-- CFG_POLY (R24). -/
  cfgPoly : Word
  /-- CFG_INIT (R24). -/
  cfgInit : Word
  /-- CFG_XOROUT (R24). -/
  cfgXorout : Word
  /-- CFG_CHECK (R24). -/
  cfgCheck : Word
  /-- CFG_REFIN, bit 0 of CFG_REF (R25). -/
  cfgRefin : Bool
  /-- CFG_REFOUT, bit 1 of CFG_REF (R25). -/
  cfgRefout : Bool
  /-- ENG_POLY (R26). -/
  engPoly : Word
  /-- ENG_INIT (R26). -/
  engInit : Word
  /-- ENG_XOROUT (R26). -/
  engXorout : Word
  /-- ENG_CHECK (R26). -/
  engCheck : Word
  /-- ENG_REFIN, bit 0 of ENG_REF (R26). -/
  engRefin : Bool
  /-- ENG_REFOUT, bit 1 of ENG_REF (R26). -/
  engRefout : Bool
  /-- TABLE (R28). -/
  table : Vector Word 256
  /-- BUILT (R30). -/
  built : Bool
  /-- C and VALID, context 0 first (R22, R23). Its length is NCTX (log entry 5). -/
  contexts : List Context
  /-- ERRCODE (R31). -/
  errcode : ErrCode
  /-- ERRCMD (R31). -/
  errcmd : Command
  /-- DESIGN CHOICE (log entry 1): what the host does from now on, next action first. -/
  port : List HostAction
  /-- DESIGN CHOICE (log entry 2): the responses returned so far, oldest first. -/
  responses : List Response
  /-- DESIGN CHOICE (log entry 6): how many resets the steps have taken. It only numbers the free values
  of TABLE and C[i] after each; no command reads or writes it. -/
  resets : Nat
  deriving DecidableEq, Repr

/-- NCTX, the number of context registers (00_scope.md R7, 10_state.md R22). -/
def State.nctx (s : State) : Nat := s.contexts.length

/-- The reasons a step can stop the machine with a fault. -/
inductive Fault where
  /-- Raised by nobody: no event of the spec stops the block (60_exceptions.md R208). It stands so that
  "the block never stops" is a statement about `step` rather than about an empty type. Safe. -/
  | blockHalted
  deriving DecidableEq, Repr

/-- The reasons a command has no meaning. -/
inductive Refusal where
  /-- Raised only by an arm of `exec` whose command has no meaning yet; no arm is one. Safe. -/
  | notModelled (mnemonic : String)
  deriving DecidableEq, Repr

/-- The contexts after reset: VALID[i] = 0 for every i, C[i] holds no value (10_state.md R36, R38).
The value is free (log entry 7). -/
def resetContexts (nctx resets : Nat) : List Context :=
  (List.range nctx).map fun i => { value := Config.resetContext resets i, valid := false }

/-- The state right after reset of a block with `nctx` contexts, `resets` resets after the first
(10_state.md R35 to R38). -/
def State.resetWith (nctx resets : Nat) : State where
  cfgPoly := 0
  cfgInit := 0
  cfgXorout := 0
  cfgCheck := 0
  cfgRefin := false
  cfgRefout := false
  engPoly := 0
  engInit := 0
  engXorout := 0
  engCheck := 0
  engRefin := false
  engRefout := false
  table := Config.resetTable resets
  built := false
  contexts := resetContexts nctx resets
  errcode := .ok
  errcmd := 0
  port := []
  responses := []
  resets := resets

/-- The state right after reset, with the reference number of contexts (00_scope.md R7). -/
def State.reset : State := State.resetWith Config.nctx 0

end Sys2Proof.Machine
end

