-- ==== Sys2Proof/Machine/Crc.lean ====
section
/-! DEFINITION. The arithmetic of the block: bit reflection (41_crc_datapath.md R130, R131), table
construction (40_configuration.md R110), the byte-wise update (R135), the postprocessor (R140), the
checksum of a byte sequence (R143), the bitwise form (R149), and the checksum as the adapter's two bytes
(20_memory.md R55). Every function here is pure. -/

namespace Sys2Proof.Machine

/-- reflect8(b)[k] = b[7-k] (41_crc_datapath.md R130). -/
def reflect8 (b : Byte) : Byte := b.reverse

/-- reflect16(v)[k] = v[15-k] (41_crc_datapath.md R131). -/
def reflect16 (v : Word) : Word := v.reverse

/-- One iteration of table construction: bit 15 is tested before the shift (40_configuration.md R110). -/
def shiftStep (p w : Word) : Word :=
  if w.getLsbD 15 then (w <<< 1) ^^^ p else w <<< 1

/-- buildTable(p)[n]: eight iterations from n << 8 (40_configuration.md R110). -/
def tableEntry (p : Word) (n : Byte) : Word :=
  (shiftStep p)^[8] (n.setWidth 16 <<< 8)

/-- buildTable(p), the 256 entries (40_configuration.md R110). -/
def buildTable (p : Word) : Vector Word 256 :=
  ⟨((List.range 256).map fun n => tableEntry p (BitVec.ofNat 8 n)).toArray, by simp⟩

/-- TABLE[n] (00_scope.md R11). -/
def lookup (t : Vector Word 256) (n : Byte) : Word := t[n.toNat]'n.isLt

/-- upd(r, b) under ENG_REFIN and TABLE (41_crc_datapath.md R135). -/
def updByte (refin : Bool) (t : Vector Word 256) (r : Word) (b : Byte) : Word :=
  let d := if refin then reflect8 b else b
  let idx := (r >>> 8 ^^^ d.setWidth 16).extractLsb' 0 8
  (r <<< 8) ^^^ lookup t idx

/-- updseq(r, b1..bk): the bytes in input order (41_crc_datapath.md R143). -/
def updBytes (refin : Bool) (t : Vector Word 256) (r : Word) : List Byte → Word
  | [] => r
  | b :: bs => updBytes refin t (updByte refin t r b) bs

/-- fin(r) under ENG_REFOUT and ENG_XOROUT: reflection, then the mask (41_crc_datapath.md R140). -/
def finWord (refout : Bool) (xorout r : Word) : Word :=
  (if refout then reflect16 r else r) ^^^ xorout

/-- The bitwise form of one update: d << 8 into r, then eight iterations (41_crc_datapath.md R149). -/
def updBitwise (p r : Word) (d : Byte) : Word :=
  (shiftStep p)^[8] (r ^^^ d.setWidth 16 <<< 8)

/-- ASCII "123456789", the bytes of the check value (41_crc_datapath.md R146). -/
def checkMessage : List Byte := [0x31, 0x32, 0x33, 0x34, 0x35, 0x36, 0x37, 0x38, 0x39]

/-- A checksum as the external adapter serialises it, most-significant byte first (20_memory.md R55). -/
def serialize (v : Word) : List Byte := [v.extractLsb' 8 8, v.extractLsb' 0 8]

end Sys2Proof.Machine
end

