-- ==== Sys2Proof/Machine/Flags.lean ====
section
/-! DEFINITION. The flag-like values: there are no condition codes (10_state.md R33), so these are the
bits of the error codes (60_exceptions.md R200), the VALID bits and the STATUS view (10_state.md R32),
the two-bit reflect words (R25, R26) and SELFTEST's MATCH (41_crc_datapath.md R146). -/

namespace Sys2Proof.Machine

/-- The code's number (60_exceptions.md R200). -/
def ErrCode.bits : ErrCode → BitVec 4
  | .ok => 0
  | .illegal => 1
  | .badctx => 2
  | .notbuilt => 3
  | .uninit => 4

/-- VALIDBITS[i] = (i < NCTX) ? VALID[i] : 0 for i in 0..15 (10_state.md R32). -/
def State.validBits (s : State) : BitVec 16 :=
  BitVec.ofFnLE fun i : Fin 16 =>
    match s.contexts[i.val]? with
    | some c => c.valid
    | none => false

/-- STATUS = (VALIDBITS[15:0], 8'b0, ERRCODE[3:0], 3'b0, BUILT) (10_state.md R32). -/
def State.statusWord (s : State) : BitVec 32 :=
  s.validBits ++ 0#8 ++ s.errcode.bits ++ 0#3 ++ BitVec.ofBool s.built

/-- The pair (REFOUT, REFIN) as a value: REFIN in bit 0, REFOUT in bit 1 (10_state.md R25, R26). -/
def refWord (refin refout : Bool) : Word := 0#14 ++ BitVec.ofBool refout ++ BitVec.ofBool refin

/-- MATCH of a SELFTEST whose result is v: v == ENG_CHECK (41_crc_datapath.md R146). -/
def matchFlag (v check : Word) : Bool := v == check

end Sys2Proof.Machine
end

