-- ==== Sys2Proof/Machine/Operands.lean ====
section
/-! DEFINITION. What a command's operand stands for: a context number (10_state.md R22), a table index
(R28), a register selector (30_encoding.md R79); and the engine's functions of a register under the
active parameters (41_crc_datapath.md R135, R140, R143). -/

namespace Sys2Proof.Machine

/-- The context of a context number: none when CTX >= NCTX (60_exceptions.md R204). -/
def State.context? (s : State) (n : CtxNum) : Option Context := s.contexts[n.toNat]?

/-- TABLE[IDX] (42_access.md R174). -/
def State.tableAt (s : State) (n : Byte) : Word := lookup s.table n

/-- upd(r, b) under the active engine (41_crc_datapath.md R135). -/
def State.upd (s : State) (r : Word) (b : Byte) : Word := updByte s.engRefin s.table r b

/-- updseq(r, bytes) under the active engine (41_crc_datapath.md R143). -/
def State.updseq (s : State) (r : Word) (bs : List Byte) : Word := updBytes s.engRefin s.table r bs

/-- fin(r) under the active engine (41_crc_datapath.md R140). -/
def State.finish (s : State) (r : Word) : Word := finWord s.engRefout s.engXorout r

/-- crc(bytes) under the active engine (41_crc_datapath.md R143). -/
def State.crc (s : State) (bs : List Byte) : Word := s.finish (s.updseq s.engInit bs)

/-- The register RDCR's SEL names, as a 32-bit value (42_access.md R176); none for 13, 14, 15. -/
def State.selected (s : State) (sel : Sel) : Option (BitVec 32) :=
  match sel.toNat with
  | 0 => some s.statusWord
  | 1 => some (s.engPoly.setWidth 32)
  | 2 => some (s.engInit.setWidth 32)
  | 3 => some (s.engXorout.setWidth 32)
  | 4 => some (s.engCheck.setWidth 32)
  | 5 => some ((refWord s.engRefin s.engRefout).setWidth 32)
  | 6 => some (s.cfgPoly.setWidth 32)
  | 7 => some (s.cfgInit.setWidth 32)
  | 8 => some (s.cfgXorout.setWidth 32)
  | 9 => some (s.cfgCheck.setWidth 32)
  | 10 => some ((refWord s.cfgRefin s.cfgRefout).setWidth 32)
  | 11 => some s.errcmd
  | 12 => some (BitVec.ofNat 32 s.nctx)
  | _ => none

end Sys2Proof.Machine
end

