-- ==== Sys2Proof/Machine/Ops.lean ====
section
/-! DEFINITION. The operations every command is made of: answering (00_scope.md R11), failing with the
first-error record (60_exceptions.md R205, R206), the checks in their order (R207, R209), the context
writes, the latch of BUILD (40_configuration.md R111 to R113), and reset (70_reset_and_hazards.md R230).
A failure is the block's only exception: it transfers control nowhere and there is no return from it
(60_exceptions.md R211). -/

namespace Sys2Proof.Machine

/-- What a command answers. -/
abbrev Result := Host.Outcome State Fault Refusal

/-- Return one response (30_encoding.md R80, 20_memory.md R60). -/
def State.answer (s : State) (r : Response) : State := { s with responses := s.responses ++ [r] }

/-- respond32(v): STATUS OK, MATCH 0, DATA v (00_scope.md R11). -/
def State.respond32 (s : State) (v : BitVec 32) : State :=
  s.answer { status := .ok, matchBit := false, data := v }

/-- respond(data): DATA is zext_32(data) (00_scope.md R11). -/
def State.respond (s : State) (v : Word) : State := s.respond32 (v.setWidth 32)

/-- if ERRCODE == 0 then ERRCODE <- E; ERRCMD <- cmd (60_exceptions.md R206). -/
def State.record (s : State) (e : ErrCode) (cmd : Command) : State :=
  if s.errcode = .ok then { s with errcode := e, errcmd := cmd } else s

/-- raise E(cmd): record, answer (E, MATCH 0, DATA 0), change nothing else (60_exceptions.md R205). -/
def State.raise (s : State) (e : ErrCode) (cmd : Command) : Result :=
  .next ((s.record e cmd).answer { status := e, matchBit := false, data := 0 })

/-- if CTX >= NCTX: raise BADCTX(cmd); else go on with that context (60_exceptions.md R204). -/
def State.checkCtx (s : State) (cmd : Command) (n : CtxNum) (k : Context → Result) : Result :=
  match s.context? n with
  | some c => k c
  | none => s.raise .badctx cmd

/-- if BUILT == 0: raise NOTBUILT(cmd) (60_exceptions.md R202). -/
def State.checkBuilt (s : State) (cmd : Command) (k : Result) : Result :=
  if s.built then k else s.raise .notbuilt cmd

/-- if VALID[CTX] == 0: raise UNINIT(cmd) (60_exceptions.md R203). -/
def State.checkValid (s : State) (cmd : Command) (c : Context) (k : Result) : Result :=
  if c.valid then k else s.raise .uninit cmd

/-- C[CTX] <- v; VALID[CTX] <- 1 (41_crc_datapath.md R133, 42_access.md R172). -/
def State.writeContext (s : State) (n : CtxNum) (v : Word) : State :=
  { s with contexts := s.contexts.set n.toNat { value := v, valid := true } }

/-- C[CTX] <- v, VALID[CTX] as it was: the write of UPDB (41_crc_datapath.md R136). -/
def State.advanceContext (s : State) (n : CtxNum) (c : Context) (v : Word) : State :=
  { s with contexts := s.contexts.set n.toNat { c with value := v } }

/-- VALID[i] <- 0 for every i < NCTX; each C[i] is unchanged (40_configuration.md R112, R114). -/
def State.invalidateAll (s : State) : State :=
  { s with contexts := s.contexts.map fun c => { c with valid := false } }

/-- ENG_* <- CFG_*, TABLE <- buildTable(CFG_POLY), BUILT <- 1 (40_configuration.md R111, R113). -/
def State.latchEngine (s : State) : State :=
  { s with
    engPoly := s.cfgPoly
    engInit := s.cfgInit
    engXorout := s.cfgXorout
    engCheck := s.cfgCheck
    engRefin := s.cfgRefin
    engRefout := s.cfgRefout
    table := buildTable s.cfgPoly
    built := true }

/-- Reset: every piece of state at its reset value, no response (70_reset_and_hazards.md R230). NCTX is
a parameter and stays; what the host still has to do and the responses it holds are not the block's. -/
def State.applyReset (s : State) : State :=
  { State.resetWith s.nctx (s.resets + 1) with port := s.port, responses := s.responses }

end Sys2Proof.Machine
end

