-- ==== Sys2Proof/Machine/Access.lean ====
section
/-! DEFINITION. The access commands: RDREG, WRREG, TBLRD and RDCR (42_access.md). RDREG and WRREG need
no engine, and RDCR works in every state. -/

namespace Sys2Proof.Machine

/-- RDREG (42_access.md R170): respond(C[CTX]). -/
def execRdreg (ctx : CtxNum) (s : State) : Result :=
  let cmd := encode (.rdreg ctx)
  s.checkCtx cmd ctx fun c =>
    s.checkValid cmd c <|
      .next (s.respond c.value)

/-- WRREG (42_access.md R172): C[CTX] <- IMM16; VALID[CTX] <- 1; respond(0). -/
def execWrreg (ctx : CtxNum) (imm16 : Word) (s : State) : Result :=
  s.checkCtx (encode (.wrreg ctx imm16)) ctx fun _ =>
    .next ((s.writeContext ctx imm16).respond 0)

/-- TBLRD (42_access.md R174): respond(TABLE[IDX]). -/
def execTblrd (idx : Byte) (s : State) : Result :=
  s.checkBuilt (encode (.tblrd idx)) <|
    .next (s.respond (s.tableAt idx))

/-- RDCR (42_access.md R176): respond with the selected register. SEL >= 13 is ILLEGAL (30_encoding.md
R86); the decoder already refuses such a word (log entry 9). -/
def execRdcr (sel : Sel) (s : State) : Result :=
  match s.selected sel with
  | some v => .next (s.respond32 v)
  | none => s.raise .illegal (encode (.rdcr sel))

end Sys2Proof.Machine
end

