-- ==== Sys2Proof/Machine/Configuration.lean ====
section
/-! DEFINITION. The configuration commands: SETPOLY, SETINIT, SETXOR, SETCHK, SETREF and BUILD
(40_configuration.md). None of them fails once its word is legal. -/

namespace Sys2Proof.Machine

/-- SETPOLY (40_configuration.md R100): CFG_POLY <- IMM16; respond(0). -/
def execSetpoly (imm16 : Word) (s : State) : Result := .next ({ s with cfgPoly := imm16 }.respond 0)

/-- SETINIT (40_configuration.md R101): CFG_INIT <- IMM16; respond(0). -/
def execSetinit (imm16 : Word) (s : State) : Result := .next ({ s with cfgInit := imm16 }.respond 0)

/-- SETXOR (40_configuration.md R102): CFG_XOROUT <- IMM16; respond(0). -/
def execSetxor (imm16 : Word) (s : State) : Result := .next ({ s with cfgXorout := imm16 }.respond 0)

/-- SETCHK (40_configuration.md R103): CFG_CHECK <- IMM16; respond(0). -/
def execSetchk (imm16 : Word) (s : State) : Result := .next ({ s with cfgCheck := imm16 }.respond 0)

/-- SETREF (40_configuration.md R104): CFG_REFIN <- RI; CFG_REFOUT <- RO; respond(0). -/
def execSetref (ri ro : Bool) (s : State) : Result :=
  .next ({ s with cfgRefin := ri, cfgRefout := ro }.respond 0)

/-- BUILD (40_configuration.md R114): latch the engine, invalidate every context; respond(0). -/
def execBuild (s : State) : Result := .next (s.latchEngine.invalidateAll.respond 0)

end Sys2Proof.Machine
end

