-- ==== Sys2Proof/Machine/Datapath.lean ====
section
/-! DEFINITION. The datapath commands: INIT, UPDB, FIN and SELFTEST (41_crc_datapath.md). The word an
error records is the command's own encoding: a legal word is its only one (log entry 8). -/

namespace Sys2Proof.Machine

/-- INIT (41_crc_datapath.md R133): C[CTX] <- ENG_INIT; VALID[CTX] <- 1; respond(0). -/
def execInit (ctx : CtxNum) (s : State) : Result :=
  let cmd := encode (.init ctx)
  s.checkCtx cmd ctx fun _ =>
    s.checkBuilt cmd <|
      .next ((s.writeContext ctx s.engInit).respond 0)

/-- UPDB (41_crc_datapath.md R136): C[CTX] <- upd(C[CTX], BYTE); respond(0). -/
def execUpdb (ctx : CtxNum) (byte : Byte) (s : State) : Result :=
  let cmd := encode (.updb ctx byte)
  s.checkCtx cmd ctx fun c =>
    s.checkBuilt cmd <|
      s.checkValid cmd c <|
        .next ((s.advanceContext ctx c (s.upd c.value byte)).respond 0)

/-- FIN (41_crc_datapath.md R141): respond(fin(C[CTX])). -/
def execFin (ctx : CtxNum) (s : State) : Result :=
  let cmd := encode (.fin ctx)
  s.checkCtx cmd ctx fun c =>
    s.checkBuilt cmd <|
      s.checkValid cmd c <|
        .next (s.respond (s.finish c.value))

/-- SELFTEST (41_crc_datapath.md R146): DATA = crc("123456789"), MATCH = (DATA == ENG_CHECK). -/
def execSelftest (s : State) : Result :=
  s.checkBuilt (encode .selftest) <|
    let v := s.crc checkMessage
    .next (s.answer { status := .ok, matchBit := matchFlag v s.engCheck, data := v.setWidth 32 })

end Sys2Proof.Machine
end

