-- ==== Sys2Proof/Machine/Dispatch.lean ====
section
/-! DEFINITION. One arm per command: its meaning. -/

namespace Sys2Proof.Machine

/-- The effect of one command. -/
def exec (i : Instr) (s : State) : Host.Outcome State Fault Refusal :=
  match i with
  | .setpoly imm16 => Sys2Proof.Machine.execSetpoly imm16 s
  | .setinit imm16 => Sys2Proof.Machine.execSetinit imm16 s
  | .setxor imm16 => Sys2Proof.Machine.execSetxor imm16 s
  | .setchk imm16 => Sys2Proof.Machine.execSetchk imm16 s
  | .setref ri ro => Sys2Proof.Machine.execSetref ri ro s
  | .build => Sys2Proof.Machine.execBuild s
  | .init ctx => Sys2Proof.Machine.execInit ctx s
  | .updb ctx byte => Sys2Proof.Machine.execUpdb ctx byte s
  | .fin ctx => Sys2Proof.Machine.execFin ctx s
  | .rdreg ctx => Sys2Proof.Machine.execRdreg ctx s
  | .wrreg ctx imm16 => Sys2Proof.Machine.execWrreg ctx imm16 s
  | .tblrd idx => Sys2Proof.Machine.execTblrd idx s
  | .selftest => Sys2Proof.Machine.execSelftest s
  | .rdcr sel => Sys2Proof.Machine.execRdcr sel s

end Sys2Proof.Machine
end

