-- ==== Sys2Proof/Machine/Fetch.lean ====
section
/-! DEFINITION. The command port: how the block takes the host's next action, and how a word that does
not decode is answered. There is no program counter and no fetch from memory: commands are pushed by the
host, one at a time (10_state.md R21, 20_memory.md R60). -/

namespace Sys2Proof.Machine

/-- The host's next action, and the state with it taken from the port. -/
def State.take (s : State) : Option (HostAction × State) :=
  match s.port with
  | [] => none
  | a :: rest => some (a, { s with port := rest })

/-- The host's next action is `a`, before whatever else it does. -/
def State.present (s : State) (a : HostAction) : State := { s with port := a :: s.port }

/-- A word that is not legal fails with ILLEGAL, the whole word recorded (60_exceptions.md R201). -/
def State.rejectWord (s : State) (w : Command) : Result := s.raise .illegal w

end Sys2Proof.Machine
end

