-- ==== Sys2Proof/Machine/Step.lean ====
section
/-! DEFINITION. One step: the block takes the host's next action and completes it. -/

namespace Sys2Proof.Machine

/-- One step (60_exceptions.md R209). With nothing presented the block is idle and keeps all state
(R218); a reset sets the reset state (70_reset_and_hazards.md R230); a command word is decoded and
executed, or fails with ILLEGAL (30_encoding.md R83). -/
def step (s : State) : Host.Outcome State Fault Refusal :=
  match s.take with
  | none => .next s
  | some (.reset _, s') => .next s'.applyReset
  | some (.command w, s') =>
    match decode w with
    | .ok i => exec i s'
    | .error _ => s'.rejectWord w

/-- `s` with the word of `decodeTableWord nbits w` presented next, so that the next step runs it. -/
def State.withFetchWord (s : State) (nbits w : Nat) : State := s.present (.command (tableWord nbits w))

end Sys2Proof.Machine
end

