-- ==== Sys2Proof/Machine/Assembler.lean ====
section
/-! DEFINITION. The assembler syntax and the pseudo-instructions (30_encoding.md R89 to R94). It is no
part of the block: it says which words a line of text stands for. -/

namespace Sys2Proof.Machine

/-- CONFIG poly, init, ri, ro, xorout, check (30_encoding.md R91). -/
def configExpansion (poly init : Word) (ri ro : Bool) (xorout check : Word) : List Instr :=
  [.setpoly poly, .setinit init, .setref ri ro, .setxor xorout, .setchk check, .build]

/-- UPDS cN, "text": one UPDB per byte (30_encoding.md R93). -/
def updsExpansion (n : CtxNum) (bytes : List Byte) : List Instr := bytes.map fun b => .updb n b

/-- CHECKSUM cN, b1, ..., bk (30_encoding.md R92). -/
def checksumExpansion (n : CtxNum) (bytes : List Byte) : List Instr :=
  .init n :: (updsExpansion n bytes ++ [.fin n])

/-- PEEK cN is FIN cN (30_encoding.md R94). -/
def peekExpansion (n : CtxNum) : List Instr := [.fin n]

/-- RESETCTX cN is INIT cN (30_encoding.md R94). -/
def resetctxExpansion (n : CtxNum) : List Instr := [.init n]

/-- Why a line does not assemble (30_encoding.md R89). -/
inductive AsmError where
  /-- The line's first word is no mnemonic of R90 to R94 and not `.word`. -/
  | unknownMnemonic
  /-- The mnemonic takes another number of operands, or an operand does not fit its field. -/
  | badOperand
  deriving DecidableEq, Repr

/-- The first word of a line: a command, a pseudo-instruction, or the directive `.word`. -/
inductive Head where
  | setpoly | setinit | setxor | setchk | setref | build | init | updb | fin | rdreg | wrreg | tblrd
  | selftest | rdcr | config | checksum | upds | peek | resetctx | word
  deriving DecidableEq, Repr

/-- The spellings, in lower case (mnemonics are case-insensitive, 30_encoding.md R89). That the names of the
pseudo-instructions and aliases and the directive `.word` are case-insensitive too is a DESIGN CHOICE, log
entry 19. -/
def heads : List (String × Head) :=
  [("setpoly", .setpoly), ("setinit", .setinit), ("setxor", .setxor), ("setchk", .setchk),
   ("setref", .setref), ("build", .build), ("init", .init), ("updb", .updb), ("fin", .fin),
   ("rdreg", .rdreg), ("wrreg", .wrreg), ("tblrd", .tblrd), ("selftest", .selftest),
   ("rdcr", .rdcr), ("config", .config), ("checksum", .checksum), ("upds", .upds),
   ("peek", .peek), ("resetctx", .resetctx), (".word", .word)]

/-- The assembler names of contexts c0 to c15, in order (10_state.md R22, 30_encoding.md R89). -/
def contextNames : List String :=
  ["c0", "c1", "c2", "c3", "c4", "c5", "c6", "c7", "c8", "c9", "c10", "c11", "c12", "c13", "c14",
   "c15"]

/-- The assembler names of RDCR's selectors 0 to 12, in order (30_encoding.md R79). -/
def selectorNames : List String :=
  ["STATUS", "ENG_POLY", "ENG_INIT", "ENG_XOROUT", "ENG_CHECK", "ENG_REF", "CFG_POLY", "CFG_INIT",
   "CFG_XOROUT", "CFG_CHECK", "CFG_REF", "ERRCMD", "NCTX"]

/-- Which entry of a list of names a text is. -/
def nameIndex (names : List String) (cs : List Char) : Option Nat :=
  names.findIdx? fun n => n.toList == cs

/-- White space inside a line (log entry 15). -/
def isBlank (c : Char) : Bool := c == ' ' || c == '\t' || c == '\r'

/-- A text without the white space around it. -/
def trim (cs : List Char) : List Char :=
  ((cs.dropWhile isBlank).reverse.dropWhile isBlank).reverse

/-- A line's comma-separated fields, up to its comment. `cur` is the field so far, reversed; `inText`
says that a double quote is open. A comma or semicolon inside a character literal or a text is not a
separator (log entry 16). -/
def fields : Bool → List Char → List Char → List (List Char)
  | _, cur, [] => [cur.reverse]
  | true, cur, c :: cs => fields (c != '"') (c :: cur) cs
  | false, cur, '\'' :: x :: '\'' :: cs => fields false ('\'' :: x :: '\'' :: cur) cs
  | false, cur, c :: cs =>
    if c = ';' then [cur.reverse]
    else if c = ',' then cur.reverse :: fields false [] cs
    else fields (c == '"') (c :: cur) cs

/-- A digit's value in a base of 10 or 16 (log entry 17: both cases of a hexadecimal digit). -/
def digitValue (base : Nat) (c : Char) : Option Nat :=
  let v :=
    if '0' ≤ c ∧ c ≤ '9' then c.toNat - '0'.toNat
    else if 'a' ≤ c ∧ c ≤ 'f' then c.toNat - 'a'.toNat + 10
    else if 'A' ≤ c ∧ c ≤ 'F' then c.toNat - 'A'.toNat + 10
    else base
  if v < base then some v else none

/-- The number a digit string stands for, `acc` being the digits before it. -/
def digits (base : Nat) : Nat → List Char → Option Nat
  | acc, [] => some acc
  | acc, c :: cs => (digitValue base c).bind fun d => digits base (acc * base + d) cs

/-- A number: decimal, or hexadecimal with prefix 0x (30_encoding.md R89). -/
def parseNumber : List Char → Option Nat
  | [] => none
  | ['0', 'x'] => none
  | '0' :: 'x' :: cs => digits 16 0 cs
  | cs => digits 10 0 cs

/-- A number that fits a field of `n` bits; a larger one is an error, not wrapped (30_encoding.md R89). -/
def parseImm (n : Nat) (cs : List Char) : Option (BitVec n) :=
  (parseNumber cs).bind fun v => if v < 2 ^ n then some (BitVec.ofNat n v) else none

/-- A character's ASCII code. -/
def asciiByte (c : Char) : Option Byte :=
  if c.toNat < 128 then some (BitVec.ofNat 8 c.toNat) else none

/-- An 8-bit operand: a number, or a character literal (30_encoding.md R89). -/
def parseByte : List Char → Option Byte
  | ['\'', x, '\''] => asciiByte x
  | cs => parseImm 8 cs

/-- A flag: 0 or 1 (30_encoding.md R89). -/
def parseFlag (cs : List Char) : Option Bool := (parseImm 1 cs).map fun v => v.getLsbD 0

/-- A context, c0 to c15 (30_encoding.md R89). -/
def parseCtx (cs : List Char) : Option CtxNum := (nameIndex contextNames cs).map (BitVec.ofNat 4)

/-- A selector: a name of 30_encoding.md R79 or its number (R89; log entry 18). -/
def parseSel (cs : List Char) : Option Sel :=
  match nameIndex selectorNames cs with
  | some k => some (BitVec.ofNat 4 k)
  | none => (parseNumber cs).bind fun v => if v ≤ 12 then some (BitVec.ofNat 4 v) else none

/-- The characters of a text up to its closing double quote, which must end the operand. -/
def textBody : List Char → Option (List Byte)
  | [] => none
  | c :: cs =>
    if c = '"' then (if cs = [] then some [] else none)
    else (asciiByte c).bind fun b => (textBody cs).map (b :: ·)

/-- The operand of UPDS: an ASCII text in double quotes (30_encoding.md R93). -/
def parseText : List Char → Option (List Byte)
  | '"' :: cs => textBody cs
  | _ => none

/-- Every operand of a list of bytes. -/
def parseBytes : List (List Char) → Option (List Byte)
  | [] => some []
  | cs :: rest => (parseByte cs).bind fun b => (parseBytes rest).map (b :: ·)

/-- The commands a head and its operands stand for (30_encoding.md R90 to R94). -/
def expand : Head → List (List Char) → Option (List Instr)
  | .setpoly, [v] => (parseImm 16 v).map fun v => [.setpoly v]
  | .setinit, [v] => (parseImm 16 v).map fun v => [.setinit v]
  | .setxor, [v] => (parseImm 16 v).map fun v => [.setxor v]
  | .setchk, [v] => (parseImm 16 v).map fun v => [.setchk v]
  | .setref, [ri, ro] => (parseFlag ri).bind fun ri => (parseFlag ro).map fun ro => [.setref ri ro]
  | .build, [] => some [.build]
  | .init, [n] => (parseCtx n).map fun n => [.init n]
  | .updb, [n, b] => (parseCtx n).bind fun n => (parseByte b).map fun b => [.updb n b]
  | .fin, [n] => (parseCtx n).map fun n => [.fin n]
  | .rdreg, [n] => (parseCtx n).map fun n => [.rdreg n]
  | .wrreg, [n, v] => (parseCtx n).bind fun n => (parseImm 16 v).map fun v => [.wrreg n v]
  | .tblrd, [b] => (parseByte b).map fun b => [.tblrd b]
  | .selftest, [] => some [.selftest]
  | .rdcr, [s] => (parseSel s).map fun s => [.rdcr s]
  | .config, [p, i, ri, ro, x, c] =>
    (parseImm 16 p).bind fun p => (parseImm 16 i).bind fun i => (parseFlag ri).bind fun ri =>
      (parseFlag ro).bind fun ro => (parseImm 16 x).bind fun x => (parseImm 16 c).map fun c =>
        configExpansion p i ri ro x c
  | .checksum, n :: bs => (parseCtx n).bind fun n => (parseBytes bs).map (checksumExpansion n)
  | .upds, [n, t] => (parseCtx n).bind fun n => (parseText t).map (updsExpansion n)
  | .peek, [n] => (parseCtx n).map peekExpansion
  | .resetctx, [n] => (parseCtx n).map resetctxExpansion
  | _, _ => none

/-- The words a head and its operands stand for; `.word v` is the raw word v (30_encoding.md R89). -/
def headWords (h : Head) (ops : List (List Char)) : Option (List Command) :=
  match h, ops with
  | .word, [v] => (parseImm 32 v).map fun v => [v]
  | h, ops => (expand h ops).map (List.map encode)

/-- The operands: what follows the mnemonic in the first field, then the other fields. -/
def operandsOf (first : List Char) (rest : List (List Char)) : List (List Char) :=
  if first = [] ∧ rest = [] then [] else first :: rest.map trim

/-- One line of assembler text: the words it stands for; none for an empty or comment line. The line's first
word is compared in lower case, `.word` and the pseudo-instructions included (DESIGN CHOICE, log entry 19). -/
def assembleLine (line : List Char) : Except AsmError (List Command) :=
  match fields false [] line with
  | [] => .ok []
  | f :: rest =>
    let f := trim f
    let name := f.takeWhile fun c => !isBlank c
    if name = [] ∧ rest = [] then .ok []
    else
      match heads.find? fun h => h.1.toList == name.map Char.toLower with
      | none => .error .unknownMnemonic
      | some (_, h) =>
        match headWords h (operandsOf (trim (f.dropWhile fun c => !isBlank c)) rest) with
        | some ws => .ok ws
        | none => .error .badOperand

/-- The words of a program, line by line: the lines in order, each one command (30_encoding.md R89). -/
def assemble : List (List Char) → Except AsmError (List Command)
  | [] => .ok []
  | l :: ls =>
    match assembleLine l, assemble ls with
    | .ok ws, .ok more => .ok (ws ++ more)
    | .error e, _ => .error e
    | .ok _, .error e => .error e

end Sys2Proof.Machine
end

