-- ==== Sys2Proof/Safety.lean ====
section
/-! DEFINITION. What the claims are stated in: a run without an error (70_reset_and_hazards.md R247), the
invariant of the block, which error a word meets (60_exceptions.md R201 to R207), and the spec's own
complete step, R209, written over the bits of the word and without decoder, `exec` or shared operations. -/

namespace Sys2Proof.Safety

open Sys2Proof.Machine

/-- No command has failed since reset (10_state.md R31, 70_reset_and_hazards.md R247). -/
def Clean (s : State) : Prop := s.errcode = .ok

/-- `k` steps, each on the state the one before it left, stopping at a fault or refusal: the run of
70_reset_and_hazards.md R247, typed over `State` (`runSteps_eq_core_run` says it is the host's run). -/
def runSteps : Nat → State → Result
  | 0, s => .next s
  | k + 1, s =>
    match step s with
    | .next t => runSteps k t
    | .fault r => .fault r
    | .refused r => .refused r

/-- The response (OK, MATCH 0, DATA v) (00_scope.md R11). -/
def okResp (v : BitVec 32) : Response := { status := .ok, matchBit := false, data := v }

/-- The response of a command that failed with code e (60_exceptions.md R205). -/
def errResp (e : ErrCode) : Response := { status := e, matchBit := false, data := 0 }

/-- fail(E) of 60_exceptions.md R209, for the word w: the first-error record, the response, no other
change (R205, R206). -/
def failed (e : ErrCode) (w : Command) (s : State) : State :=
  { s with
    errcode := if s.errcode = .ok then e else s.errcode
    errcmd := if s.errcode = .ok then w else s.errcmd
    responses := s.responses ++ [errResp e] }

/-- The opcodes with a CTX field: INIT, UPDB, FIN, RDREG, WRREG (60_exceptions.md R204, R209). -/
def ctxOps : List (BitVec 4) := [0x7, 0x8, 0x9, 0xA, 0xB]

/-- The opcodes that need an engine: INIT, UPDB, FIN, TBLRD, SELFTEST (60_exceptions.md R202, R209). -/
def engineOps : List (BitVec 4) := [0x7, 0x8, 0x9, 0xC, 0xD]

/-- The opcodes that read a context: UPDB, FIN, RDREG (60_exceptions.md R203, R209). -/
def validOps : List (BitVec 4) := [0x8, 0x9, 0xA]

/-- VALID[i] = 1 (10_state.md R23). -/
def validAt (s : State) (i : Nat) : Bool := (s.contexts[i]?.map Context.valid).getD false

/-- C[i] as a 16-bit value, 0 where there is no such context. -/
def valueAt (s : State) (i : Nat) : Word := (s.contexts[i]?.map Context.value).getD 0

/-- The one error a word meets, or `ok`: the checks of 60_exceptions.md R209 in the order of R207. -/
def errorOf (s : State) (w : Command) : ErrCode :=
  let op := w.extractLsb' 28 4
  let ctx := (w.extractLsb' 24 4).toNat
  if legal w = false then .illegal
  else if op ∈ ctxOps ∧ s.contexts.length ≤ ctx then .badctx
  else if op ∈ engineOps ∧ s.built = false then .notbuilt
  else if op ∈ validOps ∧ validAt s ctx = false then .uninit
  else .ok

/-- One update of 41_crc_datapath.md R135 under the engine of s. -/
def specUpd (s : State) (r : Word) (b : Byte) : Word :=
  let d : Byte := if s.engRefin then b.reverse else b
  (r <<< 8) ^^^ s.table[((r >>> 8).setWidth 8 ^^^ d).toNat]'((r >>> 8).setWidth 8 ^^^ d).isLt

/-- The checksum of 41_crc_datapath.md R140 under the engine of s. -/
def specFin (s : State) (r : Word) : Word := (if s.engRefout then r.reverse else r) ^^^ s.engXorout

/-- VALIDBITS of 10_state.md R32 as a number: the VALID bits of the first `n` contexts. -/
def validSum (s : State) : Nat → Nat
  | 0 => 0
  | n + 1 => validSum s n + if validAt s n then 2 ^ n else 0

/-- The number of a code (60_exceptions.md R200). -/
def codeNumber : ErrCode → Nat
  | .ok => 0
  | .illegal => 1
  | .badctx => 2
  | .notbuilt => 3
  | .uninit => 4

/-- STATUS of 10_state.md R32 as a number: BUILT at bit 0, ERRCODE at bit 4, VALID at bit 16. -/
def specStatus (s : State) : Nat :=
  (if s.built then 1 else 0) + 2 ^ 4 * codeNumber s.errcode + 2 ^ 16 * validSum s 16

/-- A two-bit reflect register read as a number (10_state.md R25, R26). -/
def specRef (refin refout : Bool) : Nat := (if refin then 1 else 0) + if refout then 2 else 0

/-- The value RDCR's selector names (42_access.md R176). -/
def specSelected (s : State) (sel : Nat) : BitVec 32 :=
  match sel with
  | 0 => BitVec.ofNat 32 (specStatus s)
  | 1 => s.engPoly.setWidth 32
  | 2 => s.engInit.setWidth 32
  | 3 => s.engXorout.setWidth 32
  | 4 => s.engCheck.setWidth 32
  | 5 => BitVec.ofNat 32 (specRef s.engRefin s.engRefout)
  | 6 => s.cfgPoly.setWidth 32
  | 7 => s.cfgInit.setWidth 32
  | 8 => s.cfgXorout.setWidth 32
  | 9 => s.cfgCheck.setWidth 32
  | 10 => BitVec.ofNat 32 (specRef s.cfgRefin s.cfgRefout)
  | 11 => s.errcmd
  | _ => BitVec.ofNat 32 s.contexts.length

/-- "execute the rule of op" of 60_exceptions.md R209 for a word that meets no error. -/
def specExecute (s : State) (w : Command) : State :=
  let imm : Word := w.extractLsb' 0 16
  let ctx := (w.extractLsb' 24 4).toNat
  let byte : Byte := w.extractLsb' 0 8
  let done (t : State) (r : Response) : State := { t with responses := s.responses ++ [r] }
  match (w.extractLsb' 28 4).toNat with
  | 0x1 => done { s with cfgPoly := imm } (okResp 0)
  | 0x2 => done { s with cfgInit := imm } (okResp 0)
  | 0x3 => done { s with cfgXorout := imm } (okResp 0)
  | 0x4 => done { s with cfgCheck := imm } (okResp 0)
  | 0x5 => done { s with cfgRefin := w.getLsbD 0, cfgRefout := w.getLsbD 1 } (okResp 0)
  | 0x6 =>
    done
      { s with
        table := Vector.ofFn fun n : Fin 256 => tableEntry s.cfgPoly (BitVec.ofNat 8 n)
        engPoly := s.cfgPoly
        engInit := s.cfgInit
        engXorout := s.cfgXorout
        engCheck := s.cfgCheck
        engRefin := s.cfgRefin
        engRefout := s.cfgRefout
        contexts := s.contexts.map fun c => { value := c.value, valid := false }
        built := true }
      (okResp 0)
  | 0x7 => done { s with contexts := s.contexts.set ctx { value := s.engInit, valid := true } } (okResp 0)
  | 0x8 =>
    done
      { s with
        contexts := s.contexts.set ctx { value := specUpd s (valueAt s ctx) byte, valid := true } }
      (okResp 0)
  | 0x9 => done s (okResp ((specFin s (valueAt s ctx)).setWidth 32))
  | 0xA => done s (okResp ((valueAt s ctx).setWidth 32))
  | 0xB => done { s with contexts := s.contexts.set ctx { value := imm, valid := true } } (okResp 0)
  | 0xC => done s (okResp ((s.table[byte.toNat]'byte.isLt).setWidth 32))
  | 0xD =>
    let v := specFin s
      ([0x31, 0x32, 0x33, 0x34, 0x35, 0x36, 0x37, 0x38, 0x39].foldl (specUpd s) s.engInit)
    done s { status := .ok, matchBit := v == s.engCheck, data := v.setWidth 32 }
  | _ => done s (okResp (specSelected s (w.extractLsb' 0 4).toNat))

/-- step(s, cmd) of 60_exceptions.md R209. -/
def specStep (s : State) (w : Command) : State :=
  match errorOf s w with
  | .ok => specExecute s w
  | e => failed e w s

/-- The first-error record agrees with its word (10_state.md R31; 60_exceptions.md R201 to R207): no
record has the word 0, and a recorded word meets its code's own condition as far as later commands
cannot change it. -/
def RecordAgrees (s : State) : Prop :=
  match s.errcode with
  | .ok => s.errcmd = 0
  | .illegal => legal s.errcmd = false
  | .badctx => legal s.errcmd = true ∧ opField s.errcmd ∈ ctxOps ∧ s.nctx ≤ (ctxField s.errcmd).toNat
  | .notbuilt =>
    legal s.errcmd = true ∧ opField s.errcmd ∈ engineOps ∧
      (opField s.errcmd ∈ ctxOps → (ctxField s.errcmd).toNat < s.nctx)
  | .uninit => legal s.errcmd = true ∧ opField s.errcmd ∈ validOps ∧ (ctxField s.errcmd).toNat < s.nctx

/-- The engine registers are those of a built engine, or still at their reset values (10_state.md R26,
R29, R30, R36). -/
def EngineAgrees (s : State) : Prop :=
  if s.built then ∀ n : Byte, lookup s.table n = tableEntry s.engPoly n
  else
    s.engPoly = 0 ∧ s.engInit = 0 ∧ s.engXorout = 0 ∧ s.engCheck = 0 ∧ s.engRefin = false ∧
      s.engRefout = false

/-- The invariant of the block: 1 <= NCTX <= 16 (00_scope.md R7), the table is the one of ENG_POLY
(10_state.md R29), and the first-error record agrees with its word. -/
def Inv (s : State) : Prop := (1 ≤ s.nctx ∧ s.nctx ≤ 16) ∧ EngineAgrees s ∧ RecordAgrees s

/-- Two states agree on everything but context j (20_memory.md R65). -/
def AgreeOff (j : Nat) (s t : State) : Prop :=
  t = { s with contexts := t.contexts } ∧ t.contexts.length = s.contexts.length ∧
    ∀ k, k ≠ j → t.contexts[k]? = s.contexts[k]?

/-- The command has a CTX field and it names context k. -/
def Addresses (k : CtxNum) : Instr → Prop
  | .init n => n = k
  | .updb n _ => n = k
  | .fin n => n = k
  | .rdreg n => n = k
  | .wrreg n _ => n = k
  | .setpoly _ => False
  | .setinit _ => False
  | .setxor _ => False
  | .setchk _ => False
  | .setref _ _ => False
  | .build => False
  | .tblrd _ => False
  | .selftest => False
  | .rdcr _ => False

/-- The commands that only read: FIN, RDREG, TBLRD, RDCR, SELFTEST (20_memory.md R59). -/
def ReadsOnly : Instr → Prop
  | .fin _ => True
  | .rdreg _ => True
  | .tblrd _ => True
  | .rdcr _ => True
  | .selftest => True
  | .setpoly _ => False
  | .setinit _ => False
  | .setxor _ => False
  | .setchk _ => False
  | .setref _ _ => False
  | .build => False
  | .init _ => False
  | .updb _ _ => False
  | .wrreg _ _ => False

end Sys2Proof.Safety
end

