-- ==== Sys2Proof/Certificates/Slice0/Obligations.lean ====
section
/-! DEFINITION. The statements for the provers, from the numbered rules of spec/. `failed e w s` is the
state a command leaves that fails with code e; `okResp v` is the response (OK, MATCH 0, DATA v). -/

open Sys2Proof Sys2Proof.Machine Sys2Proof.Safety

/-! ## Encoding and decoding -/

/-- Words written out from 30_encoding.md R71 to R79 decode to the commands they stand for. -/
def Obligations.WrittenOutWordsDecode : Prop :=
  decode 0x10001021 = .ok (.setpoly 0x1021) ∧ decode 0x50000002 = .ok (.setref false true) ∧
  decode 0x60000000 = .ok .build ∧ decode 0x72000000 = .ok (.init 2) ∧
  decode 0x81000031 = .ok (.updb 1 0x31) ∧ decode 0xB1002672 = .ok (.wrreg 1 0x2672) ∧
  decode 0xC00000FF = .ok (.tblrd 0xFF) ∧ decode 0xD0000000 = .ok .selftest ∧
  decode 0xE000000C = .ok (.rdcr 12) ∧ decode 0xE000000D = .error .reservedSel ∧
  decode 0x00000000 = .error .reservedOp ∧ decode 0xFFFFFFFF = .error .reservedOp ∧
  decode 0x10011021 = .error .reservedBits

/-- Decoding the encoding of a well-formed command gives it back, every operand at every value
(30_encoding.md R72 to R79, R88: "the inverse of the formats"). -/
def Obligations.DecodeInvertsEncode : Prop :=
  ∀ i : Instr, i.WellFormed → decode (encode i) = .ok i

/-- A word that decodes is the encoding of what it decodes to, and that command is well-formed: strict
decode leaves one word per command (30_encoding.md R82, R85). -/
def Obligations.EncodeInvertsDecode : Prop :=
  ∀ (w : Command) (i : Instr), decode w = .ok i → encode i = w ∧ i.WellFormed

/-- The encodings of 30_encoding.md R88, as it writes them, with its example. -/
def Obligations.EncodingsAreTheWrittenFormulas : Prop :=
  (∀ v : Word, encode (.setpoly v) = 0x10000000#32 ||| v.setWidth 32) ∧
  (∀ v : Word, encode (.setinit v) = 0x20000000#32 ||| v.setWidth 32) ∧
  (∀ v : Word, encode (.setxor v) = 0x30000000#32 ||| v.setWidth 32) ∧
  (∀ v : Word, encode (.setchk v) = 0x40000000#32 ||| v.setWidth 32) ∧
  (∀ ri ro : Bool, encode (.setref ri ro) =
    0x50000000#32 ||| ((BitVec.ofBool ro).setWidth 32 <<< 1) ||| (BitVec.ofBool ri).setWidth 32) ∧
  encode .build = 0x60000000#32 ∧
  (∀ n : CtxNum, encode (.init n) = 0x70000000#32 ||| (n.setWidth 32 <<< 24)) ∧
  (∀ (n : CtxNum) (b : Byte),
    encode (.updb n b) = 0x80000000#32 ||| (n.setWidth 32 <<< 24) ||| b.setWidth 32) ∧
  (∀ n : CtxNum, encode (.fin n) = 0x90000000#32 ||| (n.setWidth 32 <<< 24)) ∧
  (∀ n : CtxNum, encode (.rdreg n) = 0xA0000000#32 ||| (n.setWidth 32 <<< 24)) ∧
  (∀ (n : CtxNum) (v : Word),
    encode (.wrreg n v) = 0xB0000000#32 ||| (n.setWidth 32 <<< 24) ||| v.setWidth 32) ∧
  (∀ n : Byte, encode (.tblrd n) = 0xC0000000#32 ||| n.setWidth 32) ∧
  encode .selftest = 0xD0000000#32 ∧
  (∀ s : Sel, encode (.rdcr s) = 0xE0000000#32 ||| s.setWidth 32) ∧
  encode (.updb 1 0x31) = 0x81000031#32

/-- A word decodes exactly when it is legal, and a step on a word that is not legal fails with ILLEGAL,
the whole word recorded, with no other effect (30_encoding.md R83; 60_exceptions.md R201). Every opcode has such words. -/
def Obligations.IllegalWordsFailIllegal : Prop :=
  (∀ w : Command, (∃ i, decode w = .ok i) ↔ legal w = true) ∧
  (∀ (s : State) (w : Command) (rest : List HostAction), s.port = .command w :: rest →
    legal w = false → step s = .next (failed .illegal w { s with port := rest })) ∧
  (∀ op : BitVec 4, ∃ w : Command, opField w = op ∧ legal w = false)

/-- OP = 0x0 and OP = 0xF are illegal whatever the other bits, so the all-zero and the all-ones word never
execute (30_encoding.md R84). -/
def Obligations.ReservedOpcodesNeverExecute : Prop :=
  ∀ (s : State) (w : Command) (rest : List HostAction), s.port = .command w :: rest →
    (opField w = 0x0 ∨ opField w = 0xF ∨ w = 0x00000000 ∨ w = 0xFFFFFFFF) →
    decode w = .error .reservedOp ∧ step s = .next (failed .illegal w { s with port := rest })

/-! ## The step, the port and reset -/

/-- A step runs the decoded command: it takes the word from the port, and executes. -/
def Obligations.StepRunsTheDecodedCommand : Prop :=
  ∀ (s : State) (w : Command) (rest : List HostAction) (i : Instr),
    s.port = .command w :: rest → decode w = .ok i → step s = exec i { s with port := rest }

/-- The step on a presented word is the complete step of 60_exceptions.md R209, written over the bits of
the word: the checks in their order, then the rule of the opcode. -/
def Obligations.StepIsTheCompleteStep : Prop :=
  ∀ (s : State) (w : Command) (rest : List HostAction), s.port = .command w :: rest →
    step s = .next (specStep { s with port := rest } w)

/-- With nothing presented the block is idle and keeps all state (60_exceptions.md R218; that a step then
leaves the state as it is, is the model's reading, log entry 3). -/
def Obligations.IdleKeepsAllState : Prop := ∀ s : State, s.port = [] → step s = .next s

/-- An error does not stop, halt or lock the block (60_exceptions.md R208): every step, in every state, has
a next state; no command clears ERRCODE or ERRCMD, reset does; and a command other than RDCR does the same
whatever the record holds. -/
def Obligations.ErrorsNeverStopTheBlock : Prop :=
  (∀ s : State, ∃ t, step s = .next t) ∧
  (∀ (i : Instr) (s t : State), exec i s = .next t → s.errcode ≠ .ok →
    t.errcode = s.errcode ∧ t.errcmd = s.errcmd) ∧
  (∀ (i : Instr) (s : State) (e : ErrCode) (w : Command), (∀ sel, i ≠ .rdcr sel) →
    ∃ t t', exec i s = .next t ∧ exec i { s with errcode := e, errcmd := w } = .next t' ∧
      t' = { t with errcode := t'.errcode, errcmd := t'.errcmd }) ∧
  (∀ (s t : State) (abandoned : Option Command) (rest : List HostAction),
    s.port = .reset abandoned :: rest → step s = .next t → t.errcode = .ok ∧ t.errcmd = 0)

/-- Reset sets every piece of state to its reset value, gives no response, and forgets a command in
progress, whatever it was and whatever it had done: the states before may differ in everything
(70_reset_and_hazards.md R230). The model's choice, not the spec's words: that reset keeps NCTX and the later
host actions, and that the command in progress is an argument of the reset action that nothing reads (log
entry 4); that the responses returned before are kept, in a field of State (log entry 2). Nothing is said of
TABLE and of the value of C[i]: they are free (log entries 6 and 7). -/
def Obligations.ResetActionSetsResetValues : Prop :=
  ∀ (s : State) (abandoned : Option Command) (rest : List HostAction),
    s.port = .reset abandoned :: rest →
    ∃ t, step s = .next t ∧
      t.cfgPoly = 0 ∧ t.cfgInit = 0 ∧ t.cfgXorout = 0 ∧ t.cfgCheck = 0 ∧
      t.cfgRefin = false ∧ t.cfgRefout = false ∧
      t.engPoly = 0 ∧ t.engInit = 0 ∧ t.engXorout = 0 ∧ t.engCheck = 0 ∧
      t.engRefin = false ∧ t.engRefout = false ∧ t.built = false ∧
      t.contexts.length = s.contexts.length ∧ (∀ c ∈ t.contexts, c.valid = false) ∧
      t.errcode = .ok ∧ t.errcmd = 0 ∧ t.responses = s.responses ∧ t.port = rest ∧
      (∀ (s' : State) (abandoned' : Option Command), s'.port = .reset abandoned' :: rest →
        s'.contexts.length = s.contexts.length → s'.responses = s.responses →
        ∃ t', step s' = .next t' ∧
          t' = { t with table := t'.table, contexts := t'.contexts, resets := t'.resets })

/-- The state after reset: the staging registers (10_state.md R35) and the engine registers, BUILT, VALID,
ERRCODE and ERRCMD (R36). -/
def Obligations.ResetStateValues : Prop :=
  State.reset.cfgPoly = 0x0000 ∧ State.reset.cfgInit = 0x0000 ∧ State.reset.cfgXorout = 0x0000 ∧
  State.reset.cfgCheck = 0x0000 ∧ State.reset.cfgRefin = false ∧ State.reset.cfgRefout = false ∧
  State.reset.engPoly = 0x0000 ∧ State.reset.engInit = 0x0000 ∧ State.reset.engXorout = 0x0000 ∧
  State.reset.engCheck = 0x0000 ∧ State.reset.engRefin = false ∧ State.reset.engRefout = false ∧
  State.reset.built = false ∧ (∀ i, validAt State.reset i = false) ∧
  State.reset.errcode.bits = 0 ∧ State.reset.errcmd = 0x00000000

/-! ## Errors -/

/-- A command that fails changes nothing but the first-error record and its response, whatever the command
and whatever its pseudocode would have written: the response is (E, MATCH 0, DATA 0), and the record is
written while ERRCODE = 0 (60_exceptions.md R205, R206). -/
def Obligations.FailuresArePrecise : Prop :=
  ∀ (i : Instr) (s t : State) (r : Response), exec i s = .next t → t.responses = s.responses ++ [r] →
    r.status ≠ .ok →
    r = { status := r.status, matchBit := false, data := 0x00000000 } ∧
    t =
      { s with
        errcode := if s.errcode = .ok then r.status else s.errcode
        errcmd := if s.errcode = .ok then encode i else s.errcmd
        responses := s.responses ++ [r] }

/-- Which error a word meets: ILLEGAL, then BADCTX, then NOTBUILT, then UNINIT, each raised by exactly the
commands and in exactly the states its rule names, and exactly one reported (60_exceptions.md R201 to R204,
R207, with R207's example). -/
def Obligations.ErrorsInPriorityOrder : Prop :=
  (∀ (s : State) (w : Command) (rest : List HostAction), s.port = .command w :: rest →
    ∃ (t : State) (r : Response), step s = .next t ∧ t.responses = s.responses ++ [r] ∧
      (r.status = .illegal ↔ legal w = false) ∧
      (r.status = .badctx ↔ legal w = true ∧ opField w ∈ ctxOps ∧ s.nctx ≤ (ctxField w).toNat) ∧
      (r.status = .notbuilt ↔ legal w = true ∧ ¬(opField w ∈ ctxOps ∧ s.nctx ≤ (ctxField w).toNat) ∧
        opField w ∈ engineOps ∧ s.built = false) ∧
      (r.status = .uninit ↔ legal w = true ∧ ¬(opField w ∈ ctxOps ∧ s.nctx ≤ (ctxField w).toNat) ∧
        ¬(opField w ∈ engineOps ∧ s.built = false) ∧ opField w ∈ validOps ∧
        validAt s (ctxField w).toNat = false) ∧
      (s.nctx = 16 → r.status ≠ .badctx)) ∧
  exec (.updb 0 0x31) State.reset = .next (failed .notbuilt 0x80000031 State.reset)

/-- The first-error record is sticky: once ERRCODE is not 0 no word changes ERRCODE or ERRCMD. While it is 0,
a word whose response is OK leaves both, and a word whose response is an error sets ERRCODE to that error and
ERRCMD to itself (60_exceptions.md R206, R208; 10_state.md R31). -/
def Obligations.FirstErrorRecordIsSticky : Prop :=
  ∀ (s t : State) (w : Command) (rest : List HostAction), s.port = .command w :: rest →
    step s = .next t →
    ∃ r : Response, t.responses = s.responses ++ [r] ∧
      (s.errcode ≠ .ok → t.errcode = s.errcode ∧ t.errcmd = s.errcmd) ∧
      (s.errcode = .ok → r.status = .ok → t.errcode = .ok ∧ t.errcmd = s.errcmd) ∧
      (s.errcode = .ok → r.status ≠ .ok → t.errcode = r.status ∧ t.errcmd = w)

/-- Every command gives exactly one response; MATCH is 1 only for a successful SELFTEST whose result equals
ENG_CHECK; a failed command has DATA 0, a command with no result has DATA 0, a 16-bit result is
zero-extended, and RDCR returns the selected register (30_encoding.md R80, R81). -/
def Obligations.OneResponsePerCommand : Prop :=
  ∀ (s : State) (w : Command) (rest : List HostAction), s.port = .command w :: rest →
    ∃ (t : State) (r : Response), step s = .next t ∧ t.port = rest ∧ t.responses = s.responses ++ [r] ∧
      (r.matchBit = true ↔
        w = 0xD0000000 ∧ r.status = .ok ∧ r.data = s.engCheck.setWidth 32) ∧
      (r.status ≠ .ok → r.data = 0) ∧
      (opField w ∈ ([0x1, 0x2, 0x3, 0x4, 0x5, 0x6, 0x7, 0x8, 0xB] : List (BitVec 4)) → r.data = 0) ∧
      (opField w ∈ ([0x9, 0xA, 0xC, 0xD] : List (BitVec 4)) → r.data.extractLsb' 16 16 = 0) ∧
      (opField w = 0xE → r.status = .ok → r.data = specSelected s (selField w).toNat)

/-! ## Configuration commands -/

/-- SETPOLY (40_configuration.md R100): for every value, and ILLEGAL if cmd[27:16] is not 0. -/
def Obligations.SetpolyWritesStagingPolynomial : Prop :=
  (∀ (v : Word) (s : State),
    exec (.setpoly v) s = .next { s with cfgPoly := v, responses := s.responses ++ [okResp 0] }) ∧
  (∀ (s : State) (w : Command) (rest : List HostAction), s.port = .command w :: rest →
    w.extractLsb' 28 4 = 0x1#4 →
    step s = .next
      (if w.extractLsb' 16 12 = 0#12 then
        { s with port := rest, cfgPoly := w.extractLsb' 0 16, responses := s.responses ++ [okResp 0] }
      else failed .illegal w { s with port := rest })) ∧
  encode (.setpoly 0x1021) = 0x10001021

/-- SETINIT (40_configuration.md R101): for every value, and ILLEGAL if cmd[27:16] is not 0. Once built,
INIT loads the value unreflected, whatever the reflect flags. -/
def Obligations.SetinitWritesStagingInitialValue : Prop :=
  (∀ (v : Word) (s : State),
    exec (.setinit v) s = .next { s with cfgInit := v, responses := s.responses ++ [okResp 0] }) ∧
  (∀ (s : State) (w : Command) (rest : List HostAction), s.port = .command w :: rest →
    w.extractLsb' 28 4 = 0x2#4 →
    step s = .next
      (if w.extractLsb' 16 12 = 0#12 then
        { s with port := rest, cfgInit := w.extractLsb' 0 16, responses := s.responses ++ [okResp 0] }
      else failed .illegal w { s with port := rest })) ∧
  encode (.setinit 0xFFFF) = 0x2000FFFF ∧
  (∀ (v : Word) (n : CtxNum) (s t u : State), n.toNat < s.nctx → exec (.setinit v) s = .next t →
    exec .build t = .next u →
    ∃ x, exec (.init n) u = .next x ∧ x.contexts[n.toNat]? = some { value := v, valid := true })

/-- SETXOR (40_configuration.md R102): for every value, and ILLEGAL if cmd[27:16] is not 0. -/
def Obligations.SetxorWritesStagingOutputMask : Prop :=
  (∀ (v : Word) (s : State),
    exec (.setxor v) s = .next { s with cfgXorout := v, responses := s.responses ++ [okResp 0] }) ∧
  (∀ (s : State) (w : Command) (rest : List HostAction), s.port = .command w :: rest →
    w.extractLsb' 28 4 = 0x3#4 →
    step s = .next
      (if w.extractLsb' 16 12 = 0#12 then
        { s with port := rest, cfgXorout := w.extractLsb' 0 16, responses := s.responses ++ [okResp 0] }
      else failed .illegal w { s with port := rest })) ∧
  encode (.setxor 0xFFFF) = 0x3000FFFF

/-- SETCHK (40_configuration.md R103): for every value, and ILLEGAL if cmd[27:16] is not 0. The check value
changes SELFTEST's MATCH bit only: two states that differ in the check registers alone give the same
response to every command but RDCR, up to the MATCH bit of SELFTEST. -/
def Obligations.SetchkWritesStagingCheckValue : Prop :=
  (∀ (v : Word) (s : State),
    exec (.setchk v) s = .next { s with cfgCheck := v, responses := s.responses ++ [okResp 0] }) ∧
  (∀ (s : State) (w : Command) (rest : List HostAction), s.port = .command w :: rest →
    w.extractLsb' 28 4 = 0x4#4 →
    step s = .next
      (if w.extractLsb' 16 12 = 0#12 then
        { s with port := rest, cfgCheck := w.extractLsb' 0 16, responses := s.responses ++ [okResp 0] }
      else failed .illegal w { s with port := rest })) ∧
  encode (.setchk 0x31C3) = 0x400031C3 ∧
  (∀ (i : Instr) (s : State) (cfg eng : Word), (∀ sel, i ≠ .rdcr sel) →
    ∃ (t t' : State) (r r' : Response),
      exec i s = .next t ∧ exec i { s with cfgCheck := cfg, engCheck := eng } = .next t' ∧
      t.responses = s.responses ++ [r] ∧ t'.responses = s.responses ++ [r'] ∧
      r'.status = r.status ∧ r'.data = r.data ∧ (i ≠ .selftest → r' = r))

/-- SETREF (40_configuration.md R104): all four combinations, and ILLEGAL if cmd[27:2] is not 0. -/
def Obligations.SetrefWritesStagingReflectFlags : Prop :=
  (∀ (ri ro : Bool) (s : State),
    exec (.setref ri ro) s =
      .next { s with cfgRefin := ri, cfgRefout := ro, responses := s.responses ++ [okResp 0] }) ∧
  (∀ (s : State) (w : Command) (rest : List HostAction), s.port = .command w :: rest →
    w.extractLsb' 28 4 = 0x5#4 →
    step s = .next
      (if w.extractLsb' 2 26 = 0#26 then
        { s with
          port := rest
          cfgRefin := w.getLsbD 0
          cfgRefout := w.getLsbD 1
          responses := s.responses ++ [okResp 0] }
      else failed .illegal w { s with port := rest })) ∧
  encode (.setref true true) = 0x50000003

/-- BUILD (40_configuration.md R114, with R111, R112 and R113): the engine latched, the whole table built,
every VALID bit cleared with C[i] unchanged, BUILT set; ILLEGAL if cmd[27:0] is not 0. -/
def Obligations.BuildConstructsTheEngine : Prop :=
  (∀ s : State, ∃ table : Vector Word 256,
    (∀ n : Byte, table[n.toNat]'n.isLt =
      (fun w : Word => if w.getLsbD 15 then (w <<< 1) ^^^ s.cfgPoly else w <<< 1)^[8]
        (n.setWidth 16 <<< 8)) ∧
    exec .build s =
      .next
        { s with
          table := table
          engPoly := s.cfgPoly
          engInit := s.cfgInit
          engXorout := s.cfgXorout
          engCheck := s.cfgCheck
          engRefin := s.cfgRefin
          engRefout := s.cfgRefout
          contexts := s.contexts.map fun c => { value := c.value, valid := false }
          built := true
          responses := s.responses ++ [okResp 0] }) ∧
  (∀ (s : State) (w : Command) (rest : List HostAction), s.port = .command w :: rest →
    w.extractLsb' 28 4 = 0x6#4 →
    step s =
      if w.extractLsb' 0 28 = 0#28 then exec .build { s with port := rest }
      else .next (failed .illegal w { s with port := rest })) ∧
  encode .build = 0x60000000 ∧
  (∀ s t : State, s.cfgPoly = 0x1021 → exec .build s = .next t →
    lookup t.table 0x01 = 0x1021 ∧ lookup t.table 0xFF = 0x1EF0 ∧ t.built = true)

/-- BUILD clears every VALID bit: UPDB, FIN and RDREG then fail with UNINIT on every context, until WRREG
restores a value, which goes on under the new engine (40_configuration.md R112, 70_reset_and_hazards.md
R243). -/
def Obligations.BuildEndsEveryComputation : Prop :=
  ∀ (s t : State) (n : CtxNum) (b : Byte) (v : Word), exec .build s = .next t → n.toNat < s.nctx →
    (∀ i, validAt t i = false) ∧
    exec (.updb n b) t = .next (failed .uninit (encode (.updb n b)) t) ∧
    exec (.fin n) t = .next (failed .uninit (encode (.fin n)) t) ∧
    exec (.rdreg n) t = .next (failed .uninit (encode (.rdreg n)) t) ∧
    ∃ u x y, exec (.wrreg n v) t = .next u ∧ exec (.updb n b) u = .next x ∧
      x.contexts[n.toNat]? = some { value := t.upd v b, valid := true } ∧
      exec (.fin n) u = .next y ∧ y.responses = u.responses ++ [okResp ((t.finish v).setWidth 32)]

/-- The six commands of CONFIG, presented in order, build the engine of their parameters from any state
(30_encoding.md R91). -/
def Obligations.ConfigBuildsItsEngine : Prop :=
  (∀ (poly init : Word) (ri ro : Bool) (xorout check : Word),
    configExpansion poly init ri ro xorout check =
      [.setpoly poly, .setinit init, .setref ri ro, .setxor xorout, .setchk check, .build]) ∧
  (∀ (s : State) (poly init : Word) (ri ro : Bool) (xorout check : Word) (rest : List HostAction),
    s.port = ((configExpansion poly init ri ro xorout check).map fun i => .command (encode i)) ++ rest →
    ∃ t, runSteps 6 s = .next t ∧
      t.engPoly = poly ∧ t.engInit = init ∧ t.engRefin = ri ∧ t.engRefout = ro ∧
      t.engXorout = xorout ∧ t.engCheck = check ∧ t.built = true ∧
      (∀ n : Byte, lookup t.table n = tableEntry poly n) ∧ t.errcode = s.errcode ∧
      t.port = rest ∧ t.responses = s.responses ++ List.replicate 6 (okResp 0))

/-! ## Datapath commands -/

/-- INIT (41_crc_datapath.md R133): its errors in order, ENG_INIT loaded unreflected, VALID set, no other
context changed; ILLEGAL if cmd[23:0] is not 0. -/
def Obligations.InitStartsAComputation : Prop :=
  (∀ (n : CtxNum) (s : State), s.nctx ≤ n.toNat →
    exec (.init n) s = .next (failed .badctx (encode (.init n)) s)) ∧
  (∀ (n : CtxNum) (s : State), n.toNat < s.nctx → s.built = false →
    exec (.init n) s = .next (failed .notbuilt (encode (.init n)) s)) ∧
  (∀ (n : CtxNum) (s : State), n.toNat < s.nctx → s.built = true →
    exec (.init n) s =
      .next
        { s with
          contexts := s.contexts.set n.toNat { value := s.engInit, valid := true }
          responses := s.responses ++ [okResp 0] }) ∧
  (∀ (s : State) (w : Command) (rest : List HostAction), s.port = .command w :: rest →
    w.extractLsb' 28 4 = 0x7#4 →
    step s =
      if w.extractLsb' 0 24 = 0#24 then
        exec (.init (w.extractLsb' 24 4)) { s with port := rest }
      else .next (failed .illegal w { s with port := rest })) ∧
  encode (.init 0) = 0x70000000

/-- UPDB (41_crc_datapath.md R136 with the recurrence R135): its errors in order, C[CTX] advanced by the
byte, only that context changed; ILLEGAL if cmd[23:8] is not 0; its corner cases and example. -/
def Obligations.UpdbFeedsOneByte : Prop :=
  (∀ (n : CtxNum) (b : Byte) (s : State), s.nctx ≤ n.toNat →
    exec (.updb n b) s = .next (failed .badctx (encode (.updb n b)) s)) ∧
  (∀ (n : CtxNum) (b : Byte) (s : State), n.toNat < s.nctx → s.built = false →
    exec (.updb n b) s = .next (failed .notbuilt (encode (.updb n b)) s)) ∧
  (∀ (n : CtxNum) (b : Byte) (s : State) (c : Context), s.contexts[n.toNat]? = some c →
    s.built = true → c.valid = false →
    exec (.updb n b) s = .next (failed .uninit (encode (.updb n b)) s)) ∧
  (∀ (n : CtxNum) (b : Byte) (s : State) (c : Context), s.contexts[n.toNat]? = some c →
    s.built = true → c.valid = true →
    let d : Byte := if s.engRefin = true then reflect8 b else b
    let idx : Byte := ((c.value >>> 8) ^^^ d.setWidth 16).extractLsb' 0 8
    exec (.updb n b) s =
      .next
        { s with
          contexts :=
            s.contexts.set n.toNat
              { value := (c.value <<< 8) ^^^ s.table[idx.toNat]'idx.isLt, valid := true }
          responses := s.responses ++ [okResp 0] }) ∧
  (∀ (s : State) (w : Command) (rest : List HostAction), s.port = .command w :: rest →
    w.extractLsb' 28 4 = 0x8#4 →
    step s =
      if w.extractLsb' 8 16 = 0#16 then
        exec (.updb (w.extractLsb' 24 4) (w.extractLsb' 0 8)) { s with port := rest }
      else .next (failed .illegal w { s with port := rest })) ∧
  encode (.updb 0 0x31) = 0x80000031 ∧
  (∀ s : State, Inv s → s.built = true → s.upd 0x0000 0x00 = 0x0000) ∧
  reflect8 0x00 = 0x00 ∧ reflect8 0xFF = 0xFF ∧
  (∀ s : State, Inv s → s.built = true → s.engPoly = 0x1021 → s.engRefin = false →
    s.contexts[0]? = some { value := 0x0000, valid := true } →
    lookup s.table 0x31 = 0x2672 ∧
    ∃ t, exec (.updb 0 0x31) s = .next t ∧ t.contexts[0]? = some { value := 0x2672, valid := true })

/-- The worked update with a reflected input byte: under polynomial 0x8005 and ENG_REFIN = 1, UPDB 0x31
uses the byte 0x8C and entry 0x73 and takes 0xFFFF to 0x7E29 (41_crc_datapath.md R137). -/
def Obligations.ReflectedUpdateExample : Prop :=
  ∀ s : State, Inv s → s.built = true → s.engPoly = 0x8005 → s.engRefin = true →
    s.contexts[0]? = some { value := 0xFFFF, valid := true } →
    reflect8 0x31 = 0x8C ∧ lookup s.table 0x73 = 0x8129 ∧
    ∃ t, exec (.updb 0 0x31) s = .next t ∧ t.contexts[0]? = some { value := 0x7E29, valid := true }

/-- FIN (41_crc_datapath.md R141 with the postprocessor R140): its errors in order, DATA the reflected or
plain register XOR the mask, no state written; ILLEGAL if cmd[23:0] is not 0. -/
def Obligations.FinAnswersTheChecksum : Prop :=
  (∀ (n : CtxNum) (s : State), s.nctx ≤ n.toNat →
    exec (.fin n) s = .next (failed .badctx (encode (.fin n)) s)) ∧
  (∀ (n : CtxNum) (s : State), n.toNat < s.nctx → s.built = false →
    exec (.fin n) s = .next (failed .notbuilt (encode (.fin n)) s)) ∧
  (∀ (n : CtxNum) (s : State) (c : Context), s.contexts[n.toNat]? = some c → s.built = true →
    c.valid = false → exec (.fin n) s = .next (failed .uninit (encode (.fin n)) s)) ∧
  (∀ (n : CtxNum) (s : State) (c : Context), s.contexts[n.toNat]? = some c → s.built = true →
    c.valid = true →
    exec (.fin n) s =
      .next
        { s with
          responses :=
            s.responses ++
              [okResp (((if s.engRefout = true then reflect16 c.value else c.value) ^^^
                s.engXorout).setWidth 32)] }) ∧
  (∀ (s : State) (w : Command) (rest : List HostAction), s.port = .command w :: rest →
    w.extractLsb' 28 4 = 0x9#4 →
    step s =
      if w.extractLsb' 0 24 = 0#24 then
        exec (.fin (w.extractLsb' 24 4)) { s with port := rest }
      else .next (failed .illegal w { s with port := rest })) ∧
  encode (.fin 0) = 0x90000000 ∧ reflect16 0xECD2 ^^^ 0x0000 = 0x4B37 ∧
  (∀ v : Word, v ^^^ 0x0000 = v ∧ v ^^^ 0xFFFF = ~~~v)

/-- SELFTEST (41_crc_datapath.md R146, R147): NOTBUILT without an engine; else DATA is the checksum of
"123456789" whatever the contexts hold, MATCH says whether it is ENG_CHECK, STATUS is OK either way, no
state is written; ILLEGAL if cmd[27:0] is not 0; its example. -/
def Obligations.SelftestComparesTheCheckValue : Prop :=
  (∀ s : State, s.built = false →
    exec .selftest s = .next (failed .notbuilt (encode .selftest) s)) ∧
  (∀ s : State, s.built = true →
    let v := specFin s
      (specUpd s (specUpd s (specUpd s (specUpd s (specUpd s (specUpd s (specUpd s (specUpd s (specUpd s
        s.engInit 0x31) 0x32) 0x33) 0x34) 0x35) 0x36) 0x37) 0x38) 0x39)
    v = s.crc checkMessage ∧
    exec .selftest s =
      .next
        { s with
          responses :=
            s.responses ++
              [{ status := .ok, matchBit := decide (v = s.engCheck), data := v.setWidth 32 }] }) ∧
  (∀ (s : State) (w : Command) (rest : List HostAction), s.port = .command w :: rest →
    w.extractLsb' 28 4 = 0xD#4 →
    step s =
      if w.extractLsb' 0 28 = 0#28 then
        exec .selftest { s with port := rest }
      else .next (failed .illegal w { s with port := rest })) ∧
  encode .selftest = 0xD0000000 ∧
  (∀ s : State, s.table = buildTable 0x1021 → s.engInit = 0x0000 → s.engRefin = false →
    s.engRefout = false → s.engXorout = 0x0000 → s.built = true → s.engCheck = 0x31C3 →
    exec .selftest s =
      .next
        { s with
          responses := s.responses ++ [{ status := .ok, matchBit := true, data := 0x000031C3 }] })

/-- The reference check values: the XMODEM engine gives 0x31C3 and the MODBUS engine 0x4B37 for
"123456789" (41_crc_datapath.md R148). -/
def Obligations.ReferenceCheckValues : Prop :=
  (∀ s : State, s.table = buildTable 0x1021 → s.engInit = 0x0000 → s.engRefin = false →
    s.engRefout = false → s.engXorout = 0x0000 → s.crc checkMessage = 0x31C3) ∧
  (∀ s : State, s.table = buildTable 0x8005 → s.engInit = 0xFFFF → s.engRefin = true →
    s.engRefout = true → s.engXorout = 0x0000 → s.crc checkMessage = 0x4B37)

/-- The checksum of no bytes is fin(ENG_INIT), as INIT then FIN answer it (41_crc_datapath.md R144;
90_conflicts.md C1). -/
def Obligations.EmptyMessageChecksum : Prop :=
  ∀ (s t : State) (n : CtxNum), n.toNat < s.nctx → s.built = true → exec (.init n) s = .next t →
    s.crc [] = (if s.engRefout = true then reflect16 s.engInit else s.engInit) ^^^ s.engXorout ∧
    (s.crc [] = s.engXorout ↔ s.engInit = 0x0000) ∧
    exec (.fin n) t =
      .next { t with responses := t.responses ++ [okResp ((s.crc []).setWidth 32)] }

/-- Updating is a fold over the bytes: chunk boundaries do not matter (41_crc_datapath.md R139). -/
def Obligations.ChunkingInvariance : Prop :=
  ∀ (s : State) (r : Word) (u v : List Byte), s.updseq (s.updseq r u) v = s.updseq r (u ++ v)

/-- A multi-byte update is one UPDB per byte on one context, in input order: the context then holds
updseq(r, bytes), and the only other change is one response per command (41_crc_datapath.md R138, R143;
30_encoding.md R93). -/
def Obligations.UpdbSequenceAppliesUpdseq : Prop :=
  ∀ (bytes : List Byte) (n : CtxNum) (r : Word) (s : State) (rest : List HostAction),
    s.built = true → s.contexts[n.toNat]? = some { value := r, valid := true } →
    s.port = ((updsExpansion n bytes).map fun i => .command (encode i)) ++ rest →
    runSteps bytes.length s =
      .next
        { s with
          port := rest
          contexts := s.contexts.set n.toNat { value := s.updseq r bytes, valid := true }
          responses := s.responses ++ List.replicate bytes.length (okResp 0) }

/-- CHECKSUM: INIT, one UPDB per byte, FIN. Its last response is crc(bytes), for every message including
the empty one, whatever the context held before; crc is the finished fold of the one-byte update
(30_encoding.md R92; 41_crc_datapath.md R143). -/
def Obligations.ChecksumAnswersCrc : Prop :=
  ∀ (bytes : List Byte) (n : CtxNum) (s : State) (rest : List HostAction),
    s.built = true → n.toNat < s.nctx →
    s.port = ((checksumExpansion n bytes).map fun i => .command (encode i)) ++ rest →
    checksumExpansion n bytes = [Instr.init n] ++ (bytes.map fun b => Instr.updb n b) ++ [Instr.fin n] ∧
    runSteps (bytes.length + 2) s =
      .next
        { s with
          port := rest
          contexts := s.contexts.set n.toNat { value := s.updseq s.engInit bytes, valid := true }
          responses :=
            s.responses ++ List.replicate (bytes.length + 1) (okResp 0) ++
              [okResp ((s.crc bytes).setWidth 32)] } ∧
    s.crc bytes = s.finish (s.updseq s.engInit bytes) ∧ (∀ r, s.updseq r [] = r) ∧
    (∀ r b bs, s.updseq r (b :: bs) = s.updseq (s.upd r b) bs)

/-- Save and restore: the value RDREG answers for context i, written with WRREG to context j, lets j go on
where i stands; both then give the same checksum (42_access.md R172; 41_crc_datapath.md R139). -/
def Obligations.SavedRegisterResumesElsewhere : Prop :=
  ∀ (s t : State) (i j : CtxNum) (c : Context), s.built = true → s.contexts[i.toNat]? = some c →
    c.valid = true → j.toNat < s.nctx → exec (.wrreg j c.value) s = .next t →
    exec (.rdreg i) s = .next { s with responses := s.responses ++ [okResp (c.value.setWidth 32)] } ∧
    t.contexts[j.toNat]? = some c ∧
    ∃ v, exec (.fin j) t = .next { t with responses := t.responses ++ [okResp v] } ∧
      exec (.fin i) s = .next { s with responses := s.responses ++ [okResp v] }

/-! ## Access commands -/

/-- RDREG (42_access.md R170): its errors in order, DATA the raw register, no engine needed, no state
written; ILLEGAL if cmd[23:0] is not 0; its example. -/
def Obligations.RdregAnswersTheRegister : Prop :=
  (∀ (n : CtxNum) (s : State), s.nctx ≤ n.toNat →
    exec (.rdreg n) s = .next (failed .badctx (encode (.rdreg n)) s)) ∧
  (∀ (n : CtxNum) (s : State) (c : Context), s.contexts[n.toNat]? = some c → c.valid = false →
    exec (.rdreg n) s = .next (failed .uninit (encode (.rdreg n)) s)) ∧
  (∀ (n : CtxNum) (s : State) (c : Context), s.contexts[n.toNat]? = some c → c.valid = true →
    exec (.rdreg n) s =
      .next { s with responses := s.responses ++ [okResp (c.value.setWidth 32)] }) ∧
  (∀ (s : State) (w : Command) (rest : List HostAction), s.port = .command w :: rest →
    w.extractLsb' 28 4 = 0xA#4 →
    step s =
      if w.extractLsb' 0 24 = 0#24 then
        exec (.rdreg (w.extractLsb' 24 4)) { s with port := rest }
      else .next (failed .illegal w { s with port := rest })) ∧
  encode (.rdreg 2) = 0xA2000000 ∧
  (∀ (s : State) (rest : List HostAction), Inv s → s.built = true → s.engPoly = 0x1021 →
    s.engInit = 0x0000 → s.engRefin = false → 2 < s.nctx →
    s.port = .command (encode (.init 2)) :: .command (encode (.updb 2 0x31)) ::
      .command 0xA2000000 :: rest →
    ∃ t, runSteps 3 s = .next t ∧
      t.responses = s.responses ++ [okResp 0, okResp 0, okResp 0x00002672])

/-- WRREG (42_access.md R172): BADCTX, else C[CTX] and VALID[CTX] written, no engine needed, any value;
with IMM16 = ENG_INIT it leaves what INIT leaves when BUILT = 1; the next BUILD clears it; ILLEGAL if
cmd[23:16] is not 0. -/
def Obligations.WrregWritesTheRegister : Prop :=
  (∀ (n : CtxNum) (v : Word) (s : State), s.nctx ≤ n.toNat →
    exec (.wrreg n v) s = .next (failed .badctx (encode (.wrreg n v)) s)) ∧
  (∀ (n : CtxNum) (v : Word) (s : State), n.toNat < s.nctx →
    exec (.wrreg n v) s =
      .next
        { s with
          contexts := s.contexts.set n.toNat { value := v, valid := true }
          responses := s.responses ++ [okResp 0] }) ∧
  (∀ (n : CtxNum) (s : State), n.toNat < s.nctx → s.built = true →
    exec (.wrreg n s.engInit) s = exec (.init n) s) ∧
  (∀ (s : State) (w : Command) (rest : List HostAction), s.port = .command w :: rest →
    w.extractLsb' 28 4 = 0xB#4 →
    step s =
      if w.extractLsb' 16 8 = 0#8 then
        exec (.wrreg (w.extractLsb' 24 4) (w.extractLsb' 0 16)) { s with port := rest }
      else .next (failed .illegal w { s with port := rest })) ∧
  encode (.wrreg 1 0x2672) = 0xB1002672 ∧
  (∀ (n : CtxNum) (v : Word) (s t u : State), exec (.wrreg n v) s = .next t → exec .build t = .next u →
    validAt u n.toNat = false)

/-- TBLRD (42_access.md R174): NOTBUILT without an engine, else DATA is the entry, for every index, no
state written; entry 0 is 0 and entry 1 is ENG_POLY under every engine; ILLEGAL if cmd[27:8] is not 0. -/
def Obligations.TblrdAnswersTheEntry : Prop :=
  (∀ (n : Byte) (s : State), s.built = false →
    exec (.tblrd n) s = .next (failed .notbuilt (encode (.tblrd n)) s)) ∧
  (∀ (n : Byte) (s : State), s.built = true →
    exec (.tblrd n) s =
      .next { s with responses := s.responses ++ [okResp ((s.table[n.toNat]'n.isLt).setWidth 32)] }) ∧
  (∀ s : State, Inv s → s.built = true →
    exec (.tblrd 0x00) s = .next { s with responses := s.responses ++ [okResp 0] } ∧
    exec (.tblrd 0x01) s =
      .next { s with responses := s.responses ++ [okResp (s.engPoly.setWidth 32)] } ∧
    (s.engPoly = 0x1021 →
      exec (.tblrd 0xFF) s = .next { s with responses := s.responses ++ [okResp 0x00001EF0] })) ∧
  (∀ (s : State) (w : Command) (rest : List HostAction), s.port = .command w :: rest →
    w.extractLsb' 28 4 = 0xC#4 →
    step s =
      if w.extractLsb' 8 20 = 0#20 then
        exec (.tblrd (w.extractLsb' 0 8)) { s with port := rest }
      else .next (failed .illegal w { s with port := rest })) ∧
  encode (.tblrd 0xFF) = 0xC00000FF

/-- RDCR (42_access.md R176): each selector 0 to 12 answers its register, in every state and with no state
written; SEL 13 to 15 and a reserved bit are ILLEGAL; right after reset STATUS reads 0. -/
def Obligations.RdcrAnswersTheSelectedRegister : Prop :=
  (∀ (sel : Sel) (s : State), sel.toNat ≤ 12 →
    exec (.rdcr sel) s =
      .next { s with responses := s.responses ++ [okResp (specSelected s sel.toNat)] }) ∧
  (∀ (sel : Sel) (s : State), 13 ≤ sel.toNat →
    exec (.rdcr sel) s = .next (failed .illegal (encode (.rdcr sel)) s)) ∧
  (∀ (s : State) (w : Command) (rest : List HostAction), s.port = .command w :: rest →
    w.extractLsb' 28 4 = 0xE#4 →
    step s =
      if w.extractLsb' 4 24 = 0#24 ∧ (w.extractLsb' 0 4).toNat ≤ 12 then
        exec (.rdcr (w.extractLsb' 0 4)) { s with port := rest }
      else .next (failed .illegal w { s with port := rest })) ∧
  encode (.rdcr 0) = 0xE0000000 ∧
  exec (.rdcr 0) State.reset = .next { State.reset with responses := [okResp 0x00000000] }

/-- STATUS bit by bit, as RDCR reads it: BUILT at 0, ERRCODE at 7..4, VALID[i] at 16+i for i < NCTX, every
other bit 0 (10_state.md R32). -/
def Obligations.StatusWordLayout : Prop :=
  ∀ s : State,
    s.statusWord.getLsbD 0 = s.built ∧
    (∀ k, 1 ≤ k → k ≤ 3 → s.statusWord.getLsbD k = false) ∧
    s.statusWord.extractLsb' 4 4 = s.errcode.bits ∧
    (∀ k, 8 ≤ k → k ≤ 15 → s.statusWord.getLsbD k = false) ∧
    (∀ i, i ≤ 15 → s.statusWord.getLsbD (16 + i) =
      if i < s.nctx then validAt s i else false) ∧
    exec (.rdcr 0) s = .next { s with responses := s.responses ++ [okResp s.statusWord] }

/-! ## Rules over every command -/

/-- The reading commands have no side effect and repeat: when one succeeds all state is unchanged, and
repeating it gives the same response (20_memory.md R59; 42_access.md R178; 41_crc_datapath.md R142). -/
def Obligations.ReadsHaveNoSideEffect : Prop :=
  ∀ (i : Instr) (s t : State) (r : Response), ReadsOnly i → exec i s = .next t →
    t.responses = s.responses ++ [r] → r.status = .ok →
    t = { s with responses := s.responses ++ [r] } ∧
    exec i t = .next { t with responses := t.responses ++ [r] }

/-- Each staging register is written only by its SET command (10_state.md R24, R25), so every other command
leaves it as it was. -/
def Obligations.StagingWrittenOnlyBySetCommands : Prop :=
  ∀ (i : Instr) (s t : State), exec i s = .next t →
    ((∀ v, i ≠ .setpoly v) → t.cfgPoly = s.cfgPoly) ∧
    ((∀ v, i ≠ .setinit v) → t.cfgInit = s.cfgInit) ∧
    ((∀ v, i ≠ .setxor v) → t.cfgXorout = s.cfgXorout) ∧
    ((∀ v, i ≠ .setchk v) → t.cfgCheck = s.cfgCheck) ∧
    ((∀ ri ro, i ≠ .setref ri ro) → t.cfgRefin = s.cfgRefin ∧ t.cfgRefout = s.cfgRefout)

/-- The engine registers, the table and BUILT are written only by BUILD (10_state.md R26, R28, R30;
40_configuration.md R105), so every other command leaves them as they were. -/
def Obligations.EngineWrittenOnlyByBuild : Prop :=
  ∀ (i : Instr) (s t : State), i ≠ .build → exec i s = .next t →
    t.engPoly = s.engPoly ∧ t.engInit = s.engInit ∧ t.engXorout = s.engXorout ∧
    t.engCheck = s.engCheck ∧ t.engRefin = s.engRefin ∧ t.engRefout = s.engRefout ∧
    t.table = s.table ∧ t.built = s.built

/-- VALID and BUILT follow the commands: a context holds a value exactly if INIT (with an engine) or WRREG
has written it since the last BUILD or reset, and an engine exists exactly if BUILD has run since reset
(10_state.md R23, R30; 60_exceptions.md R202, R203). -/
def Obligations.ValidAndBuiltFollowTheCommands : Prop :=
  (∀ (i : Instr) (s t : State) (k : CtxNum), exec i s = .next t →
    (validAt t k.toNat = true ↔
      (k.toNat < s.nctx ∧ ((i = .init k ∧ s.built = true) ∨ ∃ v, i = .wrreg k v)) ∨
      (validAt s k.toNat = true ∧ i ≠ .build)) ∧
    (t.built = true ↔ i = .build ∨ s.built = true)) ∧
  (∀ (s t : State) (abandoned : Option Command) (rest : List HostAction),
    s.port = .reset abandoned :: rest → step s = .next t →
    t.built = false ∧ ∀ k, validAt t k = false)

/-- A staging write changes no engine state and no context (40_configuration.md R105). -/
def Obligations.StagingWritesChangeNoEngineState : Prop :=
  ∀ (i : Instr) (s t : State),
    ((∃ v, i = .setpoly v) ∨ (∃ v, i = .setinit v) ∨ (∃ v, i = .setxor v) ∨ (∃ v, i = .setchk v) ∨
      (∃ ri ro, i = .setref ri ro)) →
    exec i s = .next t →
    t.engPoly = s.engPoly ∧ t.engInit = s.engInit ∧ t.engXorout = s.engXorout ∧
    t.engCheck = s.engCheck ∧ t.engRefin = s.engRefin ∧ t.engRefout = s.engRefout ∧
    t.table = s.table ∧ t.built = s.built ∧ t.contexts = s.contexts

/-- The frame of the contexts: a command but BUILD leaves every context it does not name as it was, and the
commands that write no context (all but INIT, UPDB, WRREG and BUILD) leave every context; NCTX never
changes (10_state.md R22, R23). -/
def Obligations.ContextFrame : Prop :=
  ∀ (i : Instr) (s t : State), exec i s = .next t →
    t.nctx = s.nctx ∧
    (i ≠ .build → ∀ k : CtxNum, ¬Addresses k i → t.contexts[k.toNat]? = s.contexts[k.toNat]?) ∧
    ((∀ n, i ≠ .init n) → (∀ n b, i ≠ .updb n b) → (∀ n v, i ≠ .wrreg n v) → i ≠ .build →
      t.contexts = s.contexts) ∧
    (∀ k : Nat, 16 ≤ k → i ≠ .build → t.contexts[k]? = s.contexts[k]?)

/-- What a command does depends on the block's own state only: not on what the host presents later, and not
on the responses already returned; it leaves the port alone and adds one response (41_crc_datapath.md
R145; 20_memory.md R60). -/
def Obligations.ResponseDependsOnStateAndWordOnly : Prop :=
  ∀ (i : Instr) (s : State), ∃ (t : State) (r : Response),
    ∀ (port : List HostAction) (log : List Response),
      exec i { s with port := port, responses := log } =
        .next { t with port := port, responses := log ++ [r] }

/-- Computations on different contexts do not interfere (20_memory.md R65). From two states that differ
only in context j, a command that names another context gives the same response and states that still
differ only in context j, each with its own context j; the engine is read-only to it; and two commands on
different contexts that succeed may be presented in either order, each with the same response, and the
block's state afterwards is the same. -/
def Obligations.ContextsDoNotInterfere : Prop :=
  (∀ (i : Instr) (k : CtxNum) (j : Nat) (s t : State), Addresses k i → k.toNat ≠ j → AgreeOff j s t →
    ∃ s' t', exec i s = .next s' ∧ exec i t = .next t' ∧ AgreeOff j s' t' ∧
      s'.contexts[j]? = s.contexts[j]? ∧ t'.contexts[j]? = t.contexts[j]? ∧
      s'.table = s.table ∧ s'.engPoly = s.engPoly ∧ s'.engInit = s.engInit ∧
      s'.engXorout = s.engXorout ∧ s'.engCheck = s.engCheck ∧ s'.engRefin = s.engRefin ∧
      s'.engRefout = s.engRefout ∧ s'.built = s.built) ∧
  (∀ (a b : Instr) (j k : CtxNum) (s sa sab sb sba : State) (r q : Response),
    Addresses j a → Addresses k b → j ≠ k →
    exec a s = .next sa → sa.responses = s.responses ++ [r] → r.status = .ok →
    exec b s = .next sb → sb.responses = s.responses ++ [q] → q.status = .ok →
    exec b sa = .next sab → exec a sb = .next sba →
    sab = { sba with responses := sab.responses } ∧
    sab.responses = s.responses ++ [r, q] ∧ sba.responses = s.responses ++ [q, r])

/-- The invariant holds right after reset. -/
def Obligations.InvariantHoldsAtReset : Prop := Inv State.reset

/-- Every step keeps the invariant: 1 <= NCTX <= 16; whenever BUILT = 1 the table is buildTable(ENG_POLY),
and before the first BUILD the engine registers are 0; the first-error record agrees with its word
(10_state.md R29, R30, R31; 60_exceptions.md R206). -/
def Obligations.StepKeepsTheInvariant : Prop :=
  ∀ s t : State, Inv s → step s = .next t → Inv t

/-- The table BUILD writes depends on the polynomial only: two BUILDs from the same CFG_POLY leave the same
TABLE, whatever CFG_INIT, CFG_REF, CFG_XOROUT and the rest of the two states hold, and the two engines have
the same TABLE if they have the same ENG_POLY (40_configuration.md R117), and only then (entry 1 is the
polynomial, R118). -/
def Obligations.SamePolynomialSameTable : Prop :=
  ∀ s s' t t' : State, exec .build s = .next t → exec .build s' = .next t' →
    (s.cfgPoly = s'.cfgPoly → t.table = t'.table) ∧ (t.engPoly = t'.engPoly ↔ t.table = t'.table)

/-! ## Arithmetic -/

/-- The bit reflections: bit k of the result is bit 7-k, or 15-k, of the argument, with the rules' examples
(41_crc_datapath.md R130, R131). -/
def Obligations.ReflectionReversesBits : Prop :=
  (∀ (b : Byte) (k : Nat), k ≤ 7 → (reflect8 b).getLsbD k = b.getLsbD (7 - k)) ∧
  (∀ (v : Word) (k : Nat), k ≤ 15 → (reflect16 v).getLsbD k = v.getLsbD (15 - k)) ∧
  reflect8 0b10000000 = 0b00000001 ∧ reflect16 0x0001 = 0x8000

/-- The laws of the reflections (41_crc_datapath.md R132). -/
def Obligations.ReflectionLaws : Prop :=
  (∀ b : Byte, reflect8 (reflect8 b) = b) ∧ (∀ v : Word, reflect16 (reflect16 v) = v) ∧
  (∀ a b : Byte, reflect8 (a ^^^ b) = reflect8 a ^^^ reflect8 b) ∧
  (∀ a b : Word, reflect16 (a ^^^ b) = reflect16 a ^^^ reflect16 b) ∧
  (∀ h l : Byte, reflect16 (h ++ l) = reflect8 l ++ reflect8 h)

/-- The laws of the table (40_configuration.md R118, R116): XOR-linear in the index for every polynomial,
entry 0 is 0, entry 1 is the polynomial, and the eight entries at the powers of two determine it. -/
def Obligations.TableLaws : Prop :=
  (∀ (p : Word) (a b : Byte),
    lookup (buildTable p) (a ^^^ b) = lookup (buildTable p) a ^^^ lookup (buildTable p) b) ∧
  (∀ p : Word, lookup (buildTable p) 0x01 = p) ∧ (∀ p : Word, lookup (buildTable p) 0x00 = 0x0000) ∧
  (∀ (p : Word) (t : Vector Word 256),
    (∀ a b : Byte, lookup t (a ^^^ b) = lookup t a ^^^ lookup t b) →
    (∀ k, k < 8 → lookup t (1#8 <<< k) = lookup (buildTable p) (1#8 <<< k)) →
    t = buildTable p)

/-- No polynomial is rejected. With polynomial 0 every entry is 0, each UPDB then shifts the register by one
byte, and after two bytes the register is 0 whatever the data (40_configuration.md R115). -/
def Obligations.ZeroPolynomialIsDegenerate : Prop :=
  (∀ n : Byte, lookup (buildTable 0x0000) n = 0x0000) ∧
  (∀ (s : State) (r : Word) (b b' : Byte), s.table = buildTable 0x0000 →
    s.upd r b = r <<< 8 ∧ s.updseq r [b, b'] = 0x0000) ∧
  (∀ s : State, ∃ t, exec .build s = .next t ∧ t.responses = s.responses ++ [okResp 0])

/-- The table-driven and the bitwise form of the update agree, for every polynomial, register and byte
(41_crc_datapath.md R149). -/
def Obligations.TableAndBitwiseFormsAgree : Prop :=
  ∀ (p r : Word) (d : Byte),
    (r <<< 8) ^^^ lookup (buildTable p) (((r >>> 8) ^^^ d.setWidth 16).extractLsb' 0 8) =
      (fun w : Word => if w.getLsbD 15 then (w <<< 1) ^^^ p else w <<< 1)^[8]
        (r ^^^ (d.setWidth 16 <<< 8))

/-- The adapter's two bytes are the high byte, then the low byte: together they are the checksum
(20_memory.md R55; the worked value is that of 95_test_vectors.md 2.6). -/
def Obligations.SerializedHighByteFirst : Prop :=
  (∀ v : Word, ∃ h l : Byte, serialize v = [h, l] ∧ h ++ l = v) ∧ serialize 0xE698 = [0xE6, 0x98]

/-! ## The assembler -/

/-- An alias assembles to the word of the command it names, for every context (30_encoding.md R94), and the
pseudo-instructions expand as R92 and R93 write them. -/
def Obligations.PseudoInstructionsExpand : Prop :=
  (∀ n : CtxNum, (peekExpansion n).map encode = [encode (.fin n)]) ∧
  (∀ n : CtxNum, (resetctxExpansion n).map encode = [encode (.init n)]) ∧
  (∀ (n : CtxNum) (bs : List Byte),
    checksumExpansion n bs = [Instr.init n] ++ (bs.map fun b => Instr.updb n b) ++ [Instr.fin n]) ∧
  (∀ (n : CtxNum) (bs : List Byte), updsExpansion n bs = bs.map fun b => Instr.updb n b) ∧
  assembleLine "UPDS c1, \"12\"".toList = .ok [0x81000031, 0x81000032] ∧
  assembleLine "UPDS c1, \"\"".toList = .ok [] ∧
  assembleLine "PEEK c15".toList = .ok [0x9F000000] ∧
  assembleLine "RESETCTX c15".toList = .ok [0x7F000000]

/-- Lines of text assemble to the words of 30_encoding.md R88, and an operand that does not fit its field is
an error, not a wrapped value (R89). -/
def Obligations.LinesAssembleToTheirWords : Prop :=
  assembleLine "UPDB c1, 0x31 ; one byte".toList = .ok [0x81000031] ∧
  assembleLine "updb c0, '1'".toList = .ok [0x80000031] ∧
  assembleLine "SETREF 1, 0".toList = .ok [0x50000001] ∧
  assembleLine "RDCR ERRCMD".toList = .ok [0xE000000B] ∧
  assembleLine ".word 0xFFFFFFFF".toList = .ok [0xFFFFFFFF] ∧
  assembleLine "CHECKSUM c2".toList = .ok [0x72000000, 0x92000000] ∧
  assembleLine "SETPOLY 0x10000".toList = .error .badOperand ∧
  assembleLine "TBLRD 256".toList = .error .badOperand ∧
  assembleLine "INIT c16".toList = .error .badOperand ∧
  assembleLine "SETREF 2, 0".toList = .error .badOperand
end

