-- ==== Sys2Proof/Laws/Crc.lean ====
section
/-! SUPPORT. The small lemmas of the arithmetic: reading the built table, one iteration of its
construction, and the update over an empty or longer message. -/

namespace Sys2Proof.Machine

/-- Reading the built table gives the entry the rule defines (40_configuration.md R110). -/
@[simp] theorem lookup_buildTable (p : Word) (n : Byte) : lookup (buildTable p) n = tableEntry p n := by
  simp [lookup, buildTable]

theorem shiftStep_of_msb {p w : Word} (h : w.getLsbD 15 = true) : shiftStep p w = (w <<< 1) ^^^ p := by
  simp [shiftStep, h]

theorem shiftStep_of_not_msb {p w : Word} (h : w.getLsbD 15 = false) : shiftStep p w = w <<< 1 := by
  rw [shiftStep, if_neg (by rw [h]; decide)]

@[simp] theorem updBytes_nil (refin : Bool) (t : Vector Word 256) (r : Word) :
    updBytes refin t r [] = r := rfl

@[simp] theorem updBytes_cons (refin : Bool) (t : Vector Word 256) (r : Word) (b : Byte)
    (bs : List Byte) : updBytes refin t r (b :: bs) = updBytes refin t (updByte refin t r b) bs := rfl

end Sys2Proof.Machine
end

