-- ==== Sys2Proof/Laws/Decode.lean ====
section
/-! SUPPORT. The fields of an encoded command: each reads back what `encode` put there. They are the small
lemmas of `encode`, so that a proof over a command's word unfolds no bit arithmetic. -/

namespace Sys2Proof

/-- A field at the top of a concatenation reads as it was put there. -/
theorem extract_high {a b : Nat} (x : BitVec a) (y : BitVec b) : (x ++ y).extractLsb' b a = x :=
  BitVec.extractLsb'_append_eq_left

/-- A field at the bottom reads as it was put there. -/
theorem extract_low {a b : Nat} (x : BitVec a) (y : BitVec b) : (x ++ y).extractLsb' 0 b = y :=
  BitVec.extractLsb'_append_eq_right

/-- A slice that lies in the upper part of a concatenation. -/
theorem extract_above {a b : Nat} (x : BitVec a) (y : BitVec b) (lo len : Nat) :
    (x ++ y).extractLsb' (b + lo) len = x.extractLsb' lo len := by
  apply BitVec.eq_of_getLsbD_eq
  intro i hi
  simp only [BitVec.getLsbD_extractLsb', BitVec.getLsbD_append]
  rw [if_neg (show ¬ b + lo + i < b by omega), show b + lo + i - b = lo + i by omega]

/-- A slice that lies in the lower part of a concatenation. -/
theorem extract_below {a b : Nat} (x : BitVec a) (y : BitVec b) (lo len : Nat) (h : lo + len ≤ b) :
    (x ++ y).extractLsb' lo len = y.extractLsb' lo len := by
  apply BitVec.eq_of_getLsbD_eq
  intro i hi
  simp only [BitVec.getLsbD_extractLsb', BitVec.getLsbD_append]
  rw [if_pos (show lo + i < b by omega)]

/-- The opcode of a word built from an opcode and 28 lower bits (30_encoding.md R70). -/
theorem opField_opWord (op : BitVec 4) (low : BitVec 28) : opField (opWord op low) = op :=
  extract_high op low

/-- A slice of the lower 28 bits does not see the opcode. -/
theorem extract_opWord (op : BitVec 4) (low : BitVec 28) (lo len : Nat) (h : lo + len ≤ 28) :
    (opWord op low).extractLsb' lo len = low.extractLsb' lo len :=
  extract_below op low lo len h

/-- Two neighbouring slices are one slice. -/
theorem extract_glue {n : Nat} (w : BitVec n) (lo k a : Nat) :
    w.extractLsb' (lo + k) a ++ w.extractLsb' lo k = w.extractLsb' lo (a + k) := by
  apply BitVec.eq_of_getLsbD_eq
  intro i hi
  simp only [BitVec.getLsbD_append, BitVec.getLsbD_extractLsb']
  by_cases h : i < k
  · simp [h, show i < a + k by omega]
  · simp only [h, if_false, show i - k < a by omega, show i < a + k by omega]
    rw [show lo + k + (i - k) = lo + i by omega]

/-- A word is its opcode and its lower 28 bits. -/
theorem opWord_fields (w : Command) : opWord (opField w) (w.extractLsb' 0 28) = w :=
  (extract_glue w 0 28 4).trans BitVec.extractLsb'_eq_self

/-! ### Format I -/

theorem imm16_of_opWord (op : BitVec 4) (v : Word) :
    (opWord op (0#12 ++ v)).extractLsb' 0 16 = v :=
  (extract_opWord _ _ 0 16 (by decide)).trans (extract_low 0#12 v)

theorem reserved_of_formatI (op : BitVec 4) (v : Word) :
    (opWord op (0#12 ++ v)).extractLsb' 16 12 = 0#12 :=
  (extract_opWord _ _ 16 12 (by decide)).trans (extract_high 0#12 v)

/-! ### Formats C, CB and CI -/

theorem ctx_of_formatC (op : BitVec 4) (n : CtxNum) : (opWord op (n ++ 0#24)).extractLsb' 24 4 = n :=
  (extract_opWord _ _ 24 4 (by decide)).trans (extract_high n 0#24)

theorem reserved_of_formatC (op : BitVec 4) (n : CtxNum) :
    (opWord op (n ++ 0#24)).extractLsb' 0 24 = 0#24 :=
  (extract_opWord _ _ 0 24 (by decide)).trans (extract_low n 0#24)

theorem ctx_of_formatCB (op : BitVec 4) (n : CtxNum) (b : Byte) :
    (opWord op (n ++ 0#16 ++ b)).extractLsb' 24 4 = n :=
  (extract_opWord _ _ 24 4 (by decide)).trans
    ((extract_above (n ++ 0#16) b 16 4).trans (extract_high n 0#16))

theorem reserved_of_formatCB (op : BitVec 4) (n : CtxNum) (b : Byte) :
    (opWord op (n ++ 0#16 ++ b)).extractLsb' 8 16 = 0#16 :=
  (extract_opWord _ _ 8 16 (by decide)).trans
    ((extract_above (n ++ 0#16) b 0 16).trans (extract_low n 0#16))

theorem byte_of_formatCB (op : BitVec 4) (n : CtxNum) (b : Byte) :
    (opWord op (n ++ 0#16 ++ b)).extractLsb' 0 8 = b :=
  (extract_opWord _ _ 0 8 (by decide)).trans (extract_low (n ++ 0#16) b)

theorem ctx_of_formatCI (op : BitVec 4) (n : CtxNum) (v : Word) :
    (opWord op (n ++ 0#8 ++ v)).extractLsb' 24 4 = n :=
  (extract_opWord _ _ 24 4 (by decide)).trans
    ((extract_above (n ++ 0#8) v 8 4).trans (extract_high n 0#8))

theorem reserved_of_formatCI (op : BitVec 4) (n : CtxNum) (v : Word) :
    (opWord op (n ++ 0#8 ++ v)).extractLsb' 16 8 = 0#8 :=
  (extract_opWord _ _ 16 8 (by decide)).trans
    ((extract_above (n ++ 0#8) v 0 8).trans (extract_low n 0#8))

theorem imm16_of_formatCI (op : BitVec 4) (n : CtxNum) (v : Word) :
    (opWord op (n ++ 0#8 ++ v)).extractLsb' 0 16 = v :=
  (extract_opWord _ _ 0 16 (by decide)).trans (extract_low (n ++ 0#8) v)

/-! ### Formats X and S -/

theorem idx_of_formatX (op : BitVec 4) (n : Byte) : (opWord op (0#20 ++ n)).extractLsb' 0 8 = n :=
  (extract_opWord _ _ 0 8 (by decide)).trans (extract_low 0#20 n)

theorem reserved_of_formatX (op : BitVec 4) (n : Byte) :
    (opWord op (0#20 ++ n)).extractLsb' 8 20 = 0#20 :=
  (extract_opWord _ _ 8 20 (by decide)).trans (extract_high 0#20 n)

theorem sel_of_formatS (op : BitVec 4) (s : Sel) : (opWord op (0#24 ++ s)).extractLsb' 0 4 = s :=
  (extract_opWord _ _ 0 4 (by decide)).trans (extract_low 0#24 s)

theorem reserved_of_formatS (op : BitVec 4) (s : Sel) :
    (opWord op (0#24 ++ s)).extractLsb' 4 24 = 0#24 :=
  (extract_opWord _ _ 4 24 (by decide)).trans (extract_high 0#24 s)

/-! ### Format F -/

theorem flags_of_formatF (ri ro : Bool) :
    (encode (.setref ri ro)).getLsbD 0 = ri ∧ (encode (.setref ri ro)).getLsbD 1 = ro ∧
      (encode (.setref ri ro)).extractLsb' 2 26 = 0#26 := by
  revert ri ro
  decide

end Sys2Proof
end

