-- ==== Sys2Proof/Laws/State.lean ====
section
/-! SUPPORT. One lemma per field per update of the state, each true by rfl (by cases for the conditional
`record`), so that no later proof unfolds a record update. -/

namespace Sys2Proof.Machine

variable (s : State)

/-! ### `answer` -/

@[simp] theorem answer_cfgPoly (r : Response) : (s.answer r).cfgPoly = s.cfgPoly := rfl
@[simp] theorem answer_cfgInit (r : Response) : (s.answer r).cfgInit = s.cfgInit := rfl
@[simp] theorem answer_cfgXorout (r : Response) : (s.answer r).cfgXorout = s.cfgXorout := rfl
@[simp] theorem answer_cfgCheck (r : Response) : (s.answer r).cfgCheck = s.cfgCheck := rfl
@[simp] theorem answer_cfgRefin (r : Response) : (s.answer r).cfgRefin = s.cfgRefin := rfl
@[simp] theorem answer_cfgRefout (r : Response) : (s.answer r).cfgRefout = s.cfgRefout := rfl
@[simp] theorem answer_engPoly (r : Response) : (s.answer r).engPoly = s.engPoly := rfl
@[simp] theorem answer_engInit (r : Response) : (s.answer r).engInit = s.engInit := rfl
@[simp] theorem answer_engXorout (r : Response) : (s.answer r).engXorout = s.engXorout := rfl
@[simp] theorem answer_engCheck (r : Response) : (s.answer r).engCheck = s.engCheck := rfl
@[simp] theorem answer_engRefin (r : Response) : (s.answer r).engRefin = s.engRefin := rfl
@[simp] theorem answer_engRefout (r : Response) : (s.answer r).engRefout = s.engRefout := rfl
@[simp] theorem answer_table (r : Response) : (s.answer r).table = s.table := rfl
@[simp] theorem answer_built (r : Response) : (s.answer r).built = s.built := rfl
@[simp] theorem answer_contexts (r : Response) : (s.answer r).contexts = s.contexts := rfl
@[simp] theorem answer_errcode (r : Response) : (s.answer r).errcode = s.errcode := rfl
@[simp] theorem answer_errcmd (r : Response) : (s.answer r).errcmd = s.errcmd := rfl
@[simp] theorem answer_port (r : Response) : (s.answer r).port = s.port := rfl
@[simp] theorem answer_responses (r : Response) : (s.answer r).responses = s.responses ++ [r] := rfl
@[simp] theorem answer_resets (r : Response) : (s.answer r).resets = s.resets := rfl

/-! ### `respond32` -/

@[simp] theorem respond32_cfgPoly (v : BitVec 32) : (s.respond32 v).cfgPoly = s.cfgPoly := rfl
@[simp] theorem respond32_cfgInit (v : BitVec 32) : (s.respond32 v).cfgInit = s.cfgInit := rfl
@[simp] theorem respond32_cfgXorout (v : BitVec 32) : (s.respond32 v).cfgXorout = s.cfgXorout := rfl
@[simp] theorem respond32_cfgCheck (v : BitVec 32) : (s.respond32 v).cfgCheck = s.cfgCheck := rfl
@[simp] theorem respond32_cfgRefin (v : BitVec 32) : (s.respond32 v).cfgRefin = s.cfgRefin := rfl
@[simp] theorem respond32_cfgRefout (v : BitVec 32) : (s.respond32 v).cfgRefout = s.cfgRefout := rfl
@[simp] theorem respond32_engPoly (v : BitVec 32) : (s.respond32 v).engPoly = s.engPoly := rfl
@[simp] theorem respond32_engInit (v : BitVec 32) : (s.respond32 v).engInit = s.engInit := rfl
@[simp] theorem respond32_engXorout (v : BitVec 32) : (s.respond32 v).engXorout = s.engXorout := rfl
@[simp] theorem respond32_engCheck (v : BitVec 32) : (s.respond32 v).engCheck = s.engCheck := rfl
@[simp] theorem respond32_engRefin (v : BitVec 32) : (s.respond32 v).engRefin = s.engRefin := rfl
@[simp] theorem respond32_engRefout (v : BitVec 32) : (s.respond32 v).engRefout = s.engRefout := rfl
@[simp] theorem respond32_table (v : BitVec 32) : (s.respond32 v).table = s.table := rfl
@[simp] theorem respond32_built (v : BitVec 32) : (s.respond32 v).built = s.built := rfl
@[simp] theorem respond32_contexts (v : BitVec 32) : (s.respond32 v).contexts = s.contexts := rfl
@[simp] theorem respond32_errcode (v : BitVec 32) : (s.respond32 v).errcode = s.errcode := rfl
@[simp] theorem respond32_errcmd (v : BitVec 32) : (s.respond32 v).errcmd = s.errcmd := rfl
@[simp] theorem respond32_port (v : BitVec 32) : (s.respond32 v).port = s.port := rfl
@[simp] theorem respond32_responses (v : BitVec 32) : (s.respond32 v).responses = s.responses ++ [{ status := .ok, matchBit := false, data := v }] := rfl
@[simp] theorem respond32_resets (v : BitVec 32) : (s.respond32 v).resets = s.resets := rfl

/-! ### `respond` -/

@[simp] theorem respond_cfgPoly (v : Word) : (s.respond v).cfgPoly = s.cfgPoly := rfl
@[simp] theorem respond_cfgInit (v : Word) : (s.respond v).cfgInit = s.cfgInit := rfl
@[simp] theorem respond_cfgXorout (v : Word) : (s.respond v).cfgXorout = s.cfgXorout := rfl
@[simp] theorem respond_cfgCheck (v : Word) : (s.respond v).cfgCheck = s.cfgCheck := rfl
@[simp] theorem respond_cfgRefin (v : Word) : (s.respond v).cfgRefin = s.cfgRefin := rfl
@[simp] theorem respond_cfgRefout (v : Word) : (s.respond v).cfgRefout = s.cfgRefout := rfl
@[simp] theorem respond_engPoly (v : Word) : (s.respond v).engPoly = s.engPoly := rfl
@[simp] theorem respond_engInit (v : Word) : (s.respond v).engInit = s.engInit := rfl
@[simp] theorem respond_engXorout (v : Word) : (s.respond v).engXorout = s.engXorout := rfl
@[simp] theorem respond_engCheck (v : Word) : (s.respond v).engCheck = s.engCheck := rfl
@[simp] theorem respond_engRefin (v : Word) : (s.respond v).engRefin = s.engRefin := rfl
@[simp] theorem respond_engRefout (v : Word) : (s.respond v).engRefout = s.engRefout := rfl
@[simp] theorem respond_table (v : Word) : (s.respond v).table = s.table := rfl
@[simp] theorem respond_built (v : Word) : (s.respond v).built = s.built := rfl
@[simp] theorem respond_contexts (v : Word) : (s.respond v).contexts = s.contexts := rfl
@[simp] theorem respond_errcode (v : Word) : (s.respond v).errcode = s.errcode := rfl
@[simp] theorem respond_errcmd (v : Word) : (s.respond v).errcmd = s.errcmd := rfl
@[simp] theorem respond_port (v : Word) : (s.respond v).port = s.port := rfl
@[simp] theorem respond_responses (v : Word) : (s.respond v).responses = s.responses ++ [{ status := .ok, matchBit := false, data := v.setWidth 32 }] := rfl
@[simp] theorem respond_resets (v : Word) : (s.respond v).resets = s.resets := rfl

/-! ### `writeContext` -/

@[simp] theorem writeContext_cfgPoly (n : CtxNum) (v : Word) : (s.writeContext n v).cfgPoly = s.cfgPoly := rfl
@[simp] theorem writeContext_cfgInit (n : CtxNum) (v : Word) : (s.writeContext n v).cfgInit = s.cfgInit := rfl
@[simp] theorem writeContext_cfgXorout (n : CtxNum) (v : Word) : (s.writeContext n v).cfgXorout = s.cfgXorout := rfl
@[simp] theorem writeContext_cfgCheck (n : CtxNum) (v : Word) : (s.writeContext n v).cfgCheck = s.cfgCheck := rfl
@[simp] theorem writeContext_cfgRefin (n : CtxNum) (v : Word) : (s.writeContext n v).cfgRefin = s.cfgRefin := rfl
@[simp] theorem writeContext_cfgRefout (n : CtxNum) (v : Word) : (s.writeContext n v).cfgRefout = s.cfgRefout := rfl
@[simp] theorem writeContext_engPoly (n : CtxNum) (v : Word) : (s.writeContext n v).engPoly = s.engPoly := rfl
@[simp] theorem writeContext_engInit (n : CtxNum) (v : Word) : (s.writeContext n v).engInit = s.engInit := rfl
@[simp] theorem writeContext_engXorout (n : CtxNum) (v : Word) : (s.writeContext n v).engXorout = s.engXorout := rfl
@[simp] theorem writeContext_engCheck (n : CtxNum) (v : Word) : (s.writeContext n v).engCheck = s.engCheck := rfl
@[simp] theorem writeContext_engRefin (n : CtxNum) (v : Word) : (s.writeContext n v).engRefin = s.engRefin := rfl
@[simp] theorem writeContext_engRefout (n : CtxNum) (v : Word) : (s.writeContext n v).engRefout = s.engRefout := rfl
@[simp] theorem writeContext_table (n : CtxNum) (v : Word) : (s.writeContext n v).table = s.table := rfl
@[simp] theorem writeContext_built (n : CtxNum) (v : Word) : (s.writeContext n v).built = s.built := rfl
@[simp] theorem writeContext_contexts (n : CtxNum) (v : Word) : (s.writeContext n v).contexts = s.contexts.set n.toNat { value := v, valid := true } := rfl
@[simp] theorem writeContext_errcode (n : CtxNum) (v : Word) : (s.writeContext n v).errcode = s.errcode := rfl
@[simp] theorem writeContext_errcmd (n : CtxNum) (v : Word) : (s.writeContext n v).errcmd = s.errcmd := rfl
@[simp] theorem writeContext_port (n : CtxNum) (v : Word) : (s.writeContext n v).port = s.port := rfl
@[simp] theorem writeContext_responses (n : CtxNum) (v : Word) : (s.writeContext n v).responses = s.responses := rfl
@[simp] theorem writeContext_resets (n : CtxNum) (v : Word) : (s.writeContext n v).resets = s.resets := rfl

/-! ### `advanceContext` -/

@[simp] theorem advanceContext_cfgPoly (n : CtxNum) (c : Context) (v : Word) : (s.advanceContext n c v).cfgPoly = s.cfgPoly := rfl
@[simp] theorem advanceContext_cfgInit (n : CtxNum) (c : Context) (v : Word) : (s.advanceContext n c v).cfgInit = s.cfgInit := rfl
@[simp] theorem advanceContext_cfgXorout (n : CtxNum) (c : Context) (v : Word) : (s.advanceContext n c v).cfgXorout = s.cfgXorout := rfl
@[simp] theorem advanceContext_cfgCheck (n : CtxNum) (c : Context) (v : Word) : (s.advanceContext n c v).cfgCheck = s.cfgCheck := rfl
@[simp] theorem advanceContext_cfgRefin (n : CtxNum) (c : Context) (v : Word) : (s.advanceContext n c v).cfgRefin = s.cfgRefin := rfl
@[simp] theorem advanceContext_cfgRefout (n : CtxNum) (c : Context) (v : Word) : (s.advanceContext n c v).cfgRefout = s.cfgRefout := rfl
@[simp] theorem advanceContext_engPoly (n : CtxNum) (c : Context) (v : Word) : (s.advanceContext n c v).engPoly = s.engPoly := rfl
@[simp] theorem advanceContext_engInit (n : CtxNum) (c : Context) (v : Word) : (s.advanceContext n c v).engInit = s.engInit := rfl
@[simp] theorem advanceContext_engXorout (n : CtxNum) (c : Context) (v : Word) : (s.advanceContext n c v).engXorout = s.engXorout := rfl
@[simp] theorem advanceContext_engCheck (n : CtxNum) (c : Context) (v : Word) : (s.advanceContext n c v).engCheck = s.engCheck := rfl
@[simp] theorem advanceContext_engRefin (n : CtxNum) (c : Context) (v : Word) : (s.advanceContext n c v).engRefin = s.engRefin := rfl
@[simp] theorem advanceContext_engRefout (n : CtxNum) (c : Context) (v : Word) : (s.advanceContext n c v).engRefout = s.engRefout := rfl
@[simp] theorem advanceContext_table (n : CtxNum) (c : Context) (v : Word) : (s.advanceContext n c v).table = s.table := rfl
@[simp] theorem advanceContext_built (n : CtxNum) (c : Context) (v : Word) : (s.advanceContext n c v).built = s.built := rfl
@[simp] theorem advanceContext_contexts (n : CtxNum) (c : Context) (v : Word) : (s.advanceContext n c v).contexts = s.contexts.set n.toNat { c with value := v } := rfl
@[simp] theorem advanceContext_errcode (n : CtxNum) (c : Context) (v : Word) : (s.advanceContext n c v).errcode = s.errcode := rfl
@[simp] theorem advanceContext_errcmd (n : CtxNum) (c : Context) (v : Word) : (s.advanceContext n c v).errcmd = s.errcmd := rfl
@[simp] theorem advanceContext_port (n : CtxNum) (c : Context) (v : Word) : (s.advanceContext n c v).port = s.port := rfl
@[simp] theorem advanceContext_responses (n : CtxNum) (c : Context) (v : Word) : (s.advanceContext n c v).responses = s.responses := rfl
@[simp] theorem advanceContext_resets (n : CtxNum) (c : Context) (v : Word) : (s.advanceContext n c v).resets = s.resets := rfl

/-! ### `invalidateAll` -/

@[simp] theorem invalidateAll_cfgPoly : (s.invalidateAll).cfgPoly = s.cfgPoly := rfl
@[simp] theorem invalidateAll_cfgInit : (s.invalidateAll).cfgInit = s.cfgInit := rfl
@[simp] theorem invalidateAll_cfgXorout : (s.invalidateAll).cfgXorout = s.cfgXorout := rfl
@[simp] theorem invalidateAll_cfgCheck : (s.invalidateAll).cfgCheck = s.cfgCheck := rfl
@[simp] theorem invalidateAll_cfgRefin : (s.invalidateAll).cfgRefin = s.cfgRefin := rfl
@[simp] theorem invalidateAll_cfgRefout : (s.invalidateAll).cfgRefout = s.cfgRefout := rfl
@[simp] theorem invalidateAll_engPoly : (s.invalidateAll).engPoly = s.engPoly := rfl
@[simp] theorem invalidateAll_engInit : (s.invalidateAll).engInit = s.engInit := rfl
@[simp] theorem invalidateAll_engXorout : (s.invalidateAll).engXorout = s.engXorout := rfl
@[simp] theorem invalidateAll_engCheck : (s.invalidateAll).engCheck = s.engCheck := rfl
@[simp] theorem invalidateAll_engRefin : (s.invalidateAll).engRefin = s.engRefin := rfl
@[simp] theorem invalidateAll_engRefout : (s.invalidateAll).engRefout = s.engRefout := rfl
@[simp] theorem invalidateAll_table : (s.invalidateAll).table = s.table := rfl
@[simp] theorem invalidateAll_built : (s.invalidateAll).built = s.built := rfl
@[simp] theorem invalidateAll_contexts : (s.invalidateAll).contexts = s.contexts.map fun c => { c with valid := false } := rfl
@[simp] theorem invalidateAll_errcode : (s.invalidateAll).errcode = s.errcode := rfl
@[simp] theorem invalidateAll_errcmd : (s.invalidateAll).errcmd = s.errcmd := rfl
@[simp] theorem invalidateAll_port : (s.invalidateAll).port = s.port := rfl
@[simp] theorem invalidateAll_responses : (s.invalidateAll).responses = s.responses := rfl
@[simp] theorem invalidateAll_resets : (s.invalidateAll).resets = s.resets := rfl

/-! ### `latchEngine` -/

@[simp] theorem latchEngine_cfgPoly : (s.latchEngine).cfgPoly = s.cfgPoly := rfl
@[simp] theorem latchEngine_cfgInit : (s.latchEngine).cfgInit = s.cfgInit := rfl
@[simp] theorem latchEngine_cfgXorout : (s.latchEngine).cfgXorout = s.cfgXorout := rfl
@[simp] theorem latchEngine_cfgCheck : (s.latchEngine).cfgCheck = s.cfgCheck := rfl
@[simp] theorem latchEngine_cfgRefin : (s.latchEngine).cfgRefin = s.cfgRefin := rfl
@[simp] theorem latchEngine_cfgRefout : (s.latchEngine).cfgRefout = s.cfgRefout := rfl
@[simp] theorem latchEngine_engPoly : (s.latchEngine).engPoly = s.cfgPoly := rfl
@[simp] theorem latchEngine_engInit : (s.latchEngine).engInit = s.cfgInit := rfl
@[simp] theorem latchEngine_engXorout : (s.latchEngine).engXorout = s.cfgXorout := rfl
@[simp] theorem latchEngine_engCheck : (s.latchEngine).engCheck = s.cfgCheck := rfl
@[simp] theorem latchEngine_engRefin : (s.latchEngine).engRefin = s.cfgRefin := rfl
@[simp] theorem latchEngine_engRefout : (s.latchEngine).engRefout = s.cfgRefout := rfl
@[simp] theorem latchEngine_table : (s.latchEngine).table = buildTable s.cfgPoly := rfl
@[simp] theorem latchEngine_built : (s.latchEngine).built = true := rfl
@[simp] theorem latchEngine_contexts : (s.latchEngine).contexts = s.contexts := rfl
@[simp] theorem latchEngine_errcode : (s.latchEngine).errcode = s.errcode := rfl
@[simp] theorem latchEngine_errcmd : (s.latchEngine).errcmd = s.errcmd := rfl
@[simp] theorem latchEngine_port : (s.latchEngine).port = s.port := rfl
@[simp] theorem latchEngine_responses : (s.latchEngine).responses = s.responses := rfl
@[simp] theorem latchEngine_resets : (s.latchEngine).resets = s.resets := rfl

/-! ### `present` -/

@[simp] theorem present_cfgPoly (a : HostAction) : (s.present a).cfgPoly = s.cfgPoly := rfl
@[simp] theorem present_cfgInit (a : HostAction) : (s.present a).cfgInit = s.cfgInit := rfl
@[simp] theorem present_cfgXorout (a : HostAction) : (s.present a).cfgXorout = s.cfgXorout := rfl
@[simp] theorem present_cfgCheck (a : HostAction) : (s.present a).cfgCheck = s.cfgCheck := rfl
@[simp] theorem present_cfgRefin (a : HostAction) : (s.present a).cfgRefin = s.cfgRefin := rfl
@[simp] theorem present_cfgRefout (a : HostAction) : (s.present a).cfgRefout = s.cfgRefout := rfl
@[simp] theorem present_engPoly (a : HostAction) : (s.present a).engPoly = s.engPoly := rfl
@[simp] theorem present_engInit (a : HostAction) : (s.present a).engInit = s.engInit := rfl
@[simp] theorem present_engXorout (a : HostAction) : (s.present a).engXorout = s.engXorout := rfl
@[simp] theorem present_engCheck (a : HostAction) : (s.present a).engCheck = s.engCheck := rfl
@[simp] theorem present_engRefin (a : HostAction) : (s.present a).engRefin = s.engRefin := rfl
@[simp] theorem present_engRefout (a : HostAction) : (s.present a).engRefout = s.engRefout := rfl
@[simp] theorem present_table (a : HostAction) : (s.present a).table = s.table := rfl
@[simp] theorem present_built (a : HostAction) : (s.present a).built = s.built := rfl
@[simp] theorem present_contexts (a : HostAction) : (s.present a).contexts = s.contexts := rfl
@[simp] theorem present_errcode (a : HostAction) : (s.present a).errcode = s.errcode := rfl
@[simp] theorem present_errcmd (a : HostAction) : (s.present a).errcmd = s.errcmd := rfl
@[simp] theorem present_port (a : HostAction) : (s.present a).port = a :: s.port := rfl
@[simp] theorem present_responses (a : HostAction) : (s.present a).responses = s.responses := rfl
@[simp] theorem present_resets (a : HostAction) : (s.present a).resets = s.resets := rfl

/-! ### `applyReset` -/

@[simp] theorem applyReset_cfgPoly : (s.applyReset).cfgPoly = 0 := rfl
@[simp] theorem applyReset_cfgInit : (s.applyReset).cfgInit = 0 := rfl
@[simp] theorem applyReset_cfgXorout : (s.applyReset).cfgXorout = 0 := rfl
@[simp] theorem applyReset_cfgCheck : (s.applyReset).cfgCheck = 0 := rfl
@[simp] theorem applyReset_cfgRefin : (s.applyReset).cfgRefin = false := rfl
@[simp] theorem applyReset_cfgRefout : (s.applyReset).cfgRefout = false := rfl
@[simp] theorem applyReset_engPoly : (s.applyReset).engPoly = 0 := rfl
@[simp] theorem applyReset_engInit : (s.applyReset).engInit = 0 := rfl
@[simp] theorem applyReset_engXorout : (s.applyReset).engXorout = 0 := rfl
@[simp] theorem applyReset_engCheck : (s.applyReset).engCheck = 0 := rfl
@[simp] theorem applyReset_engRefin : (s.applyReset).engRefin = false := rfl
@[simp] theorem applyReset_engRefout : (s.applyReset).engRefout = false := rfl
@[simp] theorem applyReset_table : (s.applyReset).table = Config.resetTable (s.resets + 1) := rfl
@[simp] theorem applyReset_built : (s.applyReset).built = false := rfl
@[simp] theorem applyReset_contexts : (s.applyReset).contexts = resetContexts s.nctx (s.resets + 1) := rfl
@[simp] theorem applyReset_errcode : (s.applyReset).errcode = .ok := rfl
@[simp] theorem applyReset_errcmd : (s.applyReset).errcmd = 0 := rfl
@[simp] theorem applyReset_port : (s.applyReset).port = s.port := rfl
@[simp] theorem applyReset_responses : (s.applyReset).responses = s.responses := rfl
@[simp] theorem applyReset_resets : (s.applyReset).resets = s.resets + 1 := rfl

/-! ### `record` -/

@[simp] theorem record_cfgPoly (e : ErrCode) (cmd : Command) : (s.record e cmd).cfgPoly = s.cfgPoly := by
  unfold State.record; split <;> rfl
@[simp] theorem record_cfgInit (e : ErrCode) (cmd : Command) : (s.record e cmd).cfgInit = s.cfgInit := by
  unfold State.record; split <;> rfl
@[simp] theorem record_cfgXorout (e : ErrCode) (cmd : Command) : (s.record e cmd).cfgXorout = s.cfgXorout := by
  unfold State.record; split <;> rfl
@[simp] theorem record_cfgCheck (e : ErrCode) (cmd : Command) : (s.record e cmd).cfgCheck = s.cfgCheck := by
  unfold State.record; split <;> rfl
@[simp] theorem record_cfgRefin (e : ErrCode) (cmd : Command) : (s.record e cmd).cfgRefin = s.cfgRefin := by
  unfold State.record; split <;> rfl
@[simp] theorem record_cfgRefout (e : ErrCode) (cmd : Command) : (s.record e cmd).cfgRefout = s.cfgRefout := by
  unfold State.record; split <;> rfl
@[simp] theorem record_engPoly (e : ErrCode) (cmd : Command) : (s.record e cmd).engPoly = s.engPoly := by
  unfold State.record; split <;> rfl
@[simp] theorem record_engInit (e : ErrCode) (cmd : Command) : (s.record e cmd).engInit = s.engInit := by
  unfold State.record; split <;> rfl
@[simp] theorem record_engXorout (e : ErrCode) (cmd : Command) : (s.record e cmd).engXorout = s.engXorout := by
  unfold State.record; split <;> rfl
@[simp] theorem record_engCheck (e : ErrCode) (cmd : Command) : (s.record e cmd).engCheck = s.engCheck := by
  unfold State.record; split <;> rfl
@[simp] theorem record_engRefin (e : ErrCode) (cmd : Command) : (s.record e cmd).engRefin = s.engRefin := by
  unfold State.record; split <;> rfl
@[simp] theorem record_engRefout (e : ErrCode) (cmd : Command) : (s.record e cmd).engRefout = s.engRefout := by
  unfold State.record; split <;> rfl
@[simp] theorem record_table (e : ErrCode) (cmd : Command) : (s.record e cmd).table = s.table := by
  unfold State.record; split <;> rfl
@[simp] theorem record_built (e : ErrCode) (cmd : Command) : (s.record e cmd).built = s.built := by
  unfold State.record; split <;> rfl
@[simp] theorem record_contexts (e : ErrCode) (cmd : Command) : (s.record e cmd).contexts = s.contexts := by
  unfold State.record; split <;> rfl
theorem record_errcode (e : ErrCode) (cmd : Command) :
    (s.record e cmd).errcode = if s.errcode = .ok then e else s.errcode := by
  unfold State.record; split <;> rfl
theorem record_errcmd (e : ErrCode) (cmd : Command) :
    (s.record e cmd).errcmd = if s.errcode = .ok then cmd else s.errcmd := by
  unfold State.record; split <;> rfl
@[simp] theorem record_port (e : ErrCode) (cmd : Command) : (s.record e cmd).port = s.port := by
  unfold State.record; split <;> rfl
@[simp] theorem record_responses (e : ErrCode) (cmd : Command) : (s.record e cmd).responses = s.responses := by
  unfold State.record; split <;> rfl
@[simp] theorem record_resets (e : ErrCode) (cmd : Command) : (s.record e cmd).resets = s.resets := by
  unfold State.record; split <;> rfl

end Sys2Proof.Machine
end

