-- ==== Sys2Proof/Laws/Ops.lean ====
section
/-! SUPPORT. For each shared operation, once, everything it can do: the next state of a failure, the two
cases of each check, and the three cases of a step. Later proofs cite these and unfold nothing. -/

namespace Sys2Proof.Machine

variable {s : State} {cmd : Command} {n : CtxNum} {c : Context}

/-- A failure as one record: the first-error record and the response (60_exceptions.md R205, R206). -/
theorem raise_eq (s : State) (e : ErrCode) (cmd : Command) :
    s.raise e cmd =
      .next
        { s with
          errcode := if s.errcode = .ok then e else s.errcode
          errcmd := if s.errcode = .ok then cmd else s.errcmd
          responses := s.responses ++ [{ status := e, matchBit := false, data := 0 }] } := by
  unfold State.raise State.record State.answer
  split <;> rfl

/-- A context number is in range exactly when it has a context (60_exceptions.md R204). -/
theorem context?_isSome_iff (s : State) (n : CtxNum) : (s.context? n).isSome ↔ n.toNat < s.nctx := by
  simp [State.context?, State.nctx]

theorem context?_eq_none_iff (s : State) (n : CtxNum) : s.context? n = none ↔ s.nctx ≤ n.toNat := by
  simp [State.context?, State.nctx]

theorem checkCtx_of_none {k : Context → Result} (h : s.nctx ≤ n.toNat) :
    s.checkCtx cmd n k = s.raise .badctx cmd := by
  simp [State.checkCtx, (context?_eq_none_iff s n).2 h]

theorem checkCtx_of_some {k : Context → Result} (h : s.contexts[n.toNat]? = some c) :
    s.checkCtx cmd n k = k c := by
  simp [State.checkCtx, State.context?, h]

/-- What the context check can answer. -/
theorem checkCtx_cases (s : State) (cmd : Command) (n : CtxNum) (k : Context → Result) :
    (s.nctx ≤ n.toNat ∧ s.checkCtx cmd n k = s.raise .badctx cmd) ∨
      ∃ c, s.contexts[n.toNat]? = some c ∧ s.checkCtx cmd n k = k c := by
  cases h : s.contexts[n.toNat]? with
  | none => exact .inl ⟨by simpa [State.nctx] using h, by simp [State.checkCtx, State.context?, h]⟩
  | some c => exact .inr ⟨c, rfl, checkCtx_of_some h⟩

theorem checkBuilt_of_true {k : Result} (h : s.built = true) : s.checkBuilt cmd k = k := by
  simp [State.checkBuilt, h]

theorem checkBuilt_of_false {k : Result} (h : s.built = false) :
    s.checkBuilt cmd k = s.raise .notbuilt cmd := by
  simp [State.checkBuilt, h]

theorem checkValid_of_true {k : Result} (h : c.valid = true) : s.checkValid cmd c k = k := by
  simp [State.checkValid, h]

theorem checkValid_of_false {k : Result} (h : c.valid = false) :
    s.checkValid cmd c k = s.raise .uninit cmd := by
  simp [State.checkValid, h]

/-- What a step can be: idle, a reset, a command that decodes, a word that does not. -/
theorem step_cases (s : State) :
    (s.port = [] ∧ step s = .next s) ∨
    (∃ a rest, s.port = .reset a :: rest ∧ step s = .next { s with port := rest }.applyReset) ∨
    (∃ w rest i, s.port = .command w :: rest ∧ decode w = .ok i ∧
      step s = exec i { s with port := rest }) ∨
    (∃ w rest e, s.port = .command w :: rest ∧ decode w = .error e ∧
      step s = { s with port := rest }.raise .illegal w) := by
  cases hp : s.port with
  | nil => exact .inl ⟨rfl, by simp [step, State.take, hp]⟩
  | cons a rest =>
    cases a with
    | reset a => exact .inr (.inl ⟨a, rest, rfl, by simp [step, State.take, hp]⟩)
    | command w =>
      cases hd : decode w with
      | ok i => exact .inr (.inr (.inl ⟨w, rest, i, rfl, hd, by simp [step, State.take, hp, hd]⟩))
      | error e =>
        exact .inr (.inr (.inr ⟨w, rest, e, rfl, hd, by simp [step, State.take, hp, hd, State.rejectWord]⟩))

/-- A word placed by `withFetchWord` is what the next step takes. -/
theorem take_withFetchWord (s : State) (nbits w : Nat) :
    (s.withFetchWord nbits w).take = some (.command (tableWord nbits w), s) := rfl

end Sys2Proof.Machine
end

