-- ==== Sys2Proof/Laws/PerInstr.lean ====
section
/-! SUPPORT. The statements made per instruction, one lemma per constructor of `Instr`.

`EncodesLegally`: the word of a well-formed command passes the legality test of 30_encoding.md R83. -/

namespace Sys2Proof.Laws.EncodesLegally

/-- The command's word is legal (30_encoding.md R83, R88). -/
def Statement (i : Instr) : Prop := i.WellFormed → legal (encode i) = true

theorem setpoly (imm16 : Word) : Statement (.setpoly imm16) := by
  intro _
  simp [legal, encode, opField_opWord, reserved_of_formatI]

theorem setinit (imm16 : Word) : Statement (.setinit imm16) := by
  intro _
  simp [legal, encode, opField_opWord, reserved_of_formatI]

theorem setxor (imm16 : Word) : Statement (.setxor imm16) := by
  intro _
  simp [legal, encode, opField_opWord, reserved_of_formatI]

theorem setchk (imm16 : Word) : Statement (.setchk imm16) := by
  intro _
  simp [legal, encode, opField_opWord, reserved_of_formatI]

theorem setref (ri ro : Bool) : Statement (.setref ri ro) := by
  intro _
  cases ri <;> cases ro <;> decide

theorem build : Statement .build := by
  intro _
  decide

theorem init (ctx : CtxNum) : Statement (.init ctx) := by
  intro _
  simp [legal, encode, opField_opWord, reserved_of_formatC]

theorem updb (ctx : CtxNum) (byte : Byte) : Statement (.updb ctx byte) := by
  intro _
  simp [legal, encode, opField_opWord, reserved_of_formatCB]

theorem fin (ctx : CtxNum) : Statement (.fin ctx) := by
  intro _
  simp [legal, encode, opField_opWord, reserved_of_formatC]

theorem rdreg (ctx : CtxNum) : Statement (.rdreg ctx) := by
  intro _
  simp [legal, encode, opField_opWord, reserved_of_formatC]

theorem wrreg (ctx : CtxNum) (imm16 : Word) : Statement (.wrreg ctx imm16) := by
  intro _
  simp [legal, encode, opField_opWord, reserved_of_formatCI]

theorem tblrd (idx : Byte) : Statement (.tblrd idx) := by
  intro _
  simp [legal, encode, opField_opWord, reserved_of_formatX]

theorem selftest : Statement .selftest := by
  intro _
  decide

theorem rdcr (sel : Sel) : Statement (.rdcr sel) := by
  intro h
  have h : sel.toNat ≤ 12 := by simpa [Instr.WellFormed, Instr.wf] using h
  simp [legal, encode, opField_opWord, reserved_of_formatS, sel_of_formatS, h, -BitVec.extractLsb'_toNat]

end Sys2Proof.Laws.EncodesLegally
end

