-- ==== Sys2Proof/Laws/Run.lean ====
section
/-! SUPPORT. Running several steps: one step at a time, two runs in a row, and that it is the host's run. -/

namespace Sys2Proof.Safety

open Sys2Proof.Machine

@[simp] theorem runSteps_zero (s : State) : runSteps 0 s = .next s := rfl

/-- A run of k + 1 steps whose first step answers `t`. -/
theorem runSteps_succ_of_step {k : Nat} {s t : State} (h : step s = .next t) :
    runSteps (k + 1) s = runSteps k t := by
  simp [runSteps, h]

/-- A run in two parts. -/
theorem runSteps_add_of_run {a b : Nat} {s t : State} (h : runSteps a s = .next t) :
    runSteps (a + b) s = runSteps b t := by
  induction a generalizing s with
  | zero =>
    rw [runSteps_zero] at h
    injection h with h
    rw [Nat.zero_add, h]
  | succ a ih =>
    rw [Nat.add_right_comm]
    cases hs : step s with
    | next u =>
      rw [runSteps_succ_of_step hs] at h ⊢
      exact ih h
    | fault r => simp [runSteps, hs] at h
    | refused r => simp [runSteps, hs] at h

/-- One step of the host's run, over any machine: what it is when the step answers `o`. -/
theorem hostRun_succ (M : Host.Core) {k : Nat} {s : M.State} :
    (∀ t, M.step s = .next t → M.run (k + 1) s = M.run k t) ∧
      (∀ r, M.step s = .fault r → M.run (k + 1) s = .fault r) ∧
      (∀ r, M.step s = .refused r → M.run (k + 1) s = .refused r) := by
  refine ⟨fun t h => ?_, fun r h => ?_, fun r h => ?_⟩ <;> rw [Host.Core.run, h]

/-- The run is the host's. -/
theorem runSteps_eq_core_run (k : Nat) (s : State) : runSteps k s = Sys2Proof.core.run k s := by
  induction k generalizing s with
  | zero => exact (Host.Core.run.eq_1 Sys2Proof.core s).symm
  | succ k ih =>
    cases hs : step s with
    | next t =>
      exact (runSteps_succ_of_step hs).trans ((ih t).trans ((hostRun_succ Sys2Proof.core).1 t hs).symm)
    | fault r =>
      have h : runSteps (k + 1) s = .fault r := by simp [runSteps, hs]
      exact h.trans ((hostRun_succ Sys2Proof.core).2.1 r hs).symm
    | refused r =>
      have h : runSteps (k + 1) s = .refused r := by simp [runSteps, hs]
      exact h.trans ((hostRun_succ Sys2Proof.core).2.2 r hs).symm

end Sys2Proof.Safety
end

