-- ==== Sys2Proof/Tests/Slice0.lean ====
section
/-! SUPPORT. Tests: words and vectors written out from 30_encoding.md and 95_test_vectors.md, one step each;
then a witness for the hypotheses of every obligation that has some, clause by clause, at boundary values. -/

namespace Sys2Proof.Tests

open Sys2Proof.Machine Sys2Proof.Safety

/-! ## Helpers -/

/-- A component of the next state. -/
def after {α : Type} (f : State → α) : Result → Option α
  | .next t => some (f t)
  | .fault _ => none
  | .refused _ => none

/-- The response a command gave: the last one. -/
def reply (r : Result) : Option Response := (after (fun t => t.responses.getLast?) r).join

/-- The error record after a command. -/
def recordAfter (r : Result) : Option (ErrCode × Command) := after (fun t => (t.errcode, t.errcmd)) r

/-- A state with a built engine, the staging registers equal to it, and the given contexts. -/
def engine (poly init : Word) (ri ro : Bool) (xorout check : Word) (contexts : List Context) : State :=
  { State.reset with
    cfgPoly := poly
    cfgInit := init
    cfgXorout := xorout
    cfgCheck := check
    cfgRefin := ri
    cfgRefout := ro
    engPoly := poly
    engInit := init
    engXorout := xorout
    engCheck := check
    engRefin := ri
    engRefout := ro
    table := buildTable poly
    built := true
    contexts := contexts }

/-- Four contexts: c0 holds v, the others hold nothing. -/
def oneValue (v : Word) : List Context := [⟨v, true⟩, ⟨0, false⟩, ⟨0, false⟩, ⟨0, false⟩]

/-- The XMODEM engine (41_crc_datapath.md R148). -/
def xmodem (contexts : List Context) : State := engine 0x1021 0x0000 false false 0x0000 0x31C3 contexts

/-- The MODBUS engine (41_crc_datapath.md R148). -/
def modbus (contexts : List Context) : State := engine 0x8005 0xFFFF true true 0x0000 0x4B37 contexts

/-- The state the access vectors of 95_test_vectors.md 2.8 start from. -/
def afterP2 : State := modbus [⟨0x5D0C, true⟩, ⟨0xECD2, true⟩, ⟨0xECD2, true⟩, ⟨0, false⟩]

/-- Reset state with one word presented. -/
def fed (w : Command) : State := State.reset.present (.command w)

/-! ## Well-formedness: the one check refuses its ill-formed terms (30_encoding.md R86) -/

theorem test_wf_refuses_sel_13 : ¬(Instr.rdcr 13).WellFormed := by decide
theorem test_wf_refuses_sel_14 : ¬(Instr.rdcr 14).WellFormed := by decide
theorem test_wf_refuses_sel_15 : ¬(Instr.rdcr 15).WellFormed := by decide
theorem test_wf_accepts_sel_12 : (Instr.rdcr 12).WellFormed := by decide

/-! ## Decoding: one word per command, written out from 30_encoding.md R71 to R79 -/

theorem test_decode_setpoly : decode 0b0001_000000000000_0001000000100001 = .ok (.setpoly 0x1021) := by decide
theorem test_decode_setinit : decode 0b0010_000000000000_1111111111111111 = .ok (.setinit 0xFFFF) := by decide
theorem test_decode_setxor : decode 0b0011_000000000000_1111111111111111 = .ok (.setxor 0xFFFF) := by decide
theorem test_decode_setchk : decode 0b0100_000000000000_0011000111000011 = .ok (.setchk 0x31C3) := by decide
theorem test_decode_setref : decode 0b0101_00000000000000000000000000_0_1 = .ok (.setref true false) := by decide
theorem test_decode_build : decode 0b0110_0000000000000000000000000000 = .ok .build := by decide
theorem test_decode_init : decode 0b0111_0101_000000000000000000000000 = .ok (.init 5) := by decide
theorem test_decode_updb : decode 0b1000_0001_0000000000000000_00110001 = .ok (.updb 1 0x31) := by decide
theorem test_decode_fin : decode 0b1001_0010_000000000000000000000000 = .ok (.fin 2) := by decide
theorem test_decode_rdreg : decode 0b1010_0011_000000000000000000000000 = .ok (.rdreg 3) := by decide
theorem test_decode_wrreg : decode 0b1011_0010_00000000_0101110100001100 = .ok (.wrreg 2 0x5D0C) := by decide
theorem test_decode_tblrd : decode 0b1100_00000000000000000000_11111111 = .ok (.tblrd 0xFF) := by decide
theorem test_decode_selftest : decode 0b1101_0000000000000000000000000000 = .ok .selftest := by decide
theorem test_decode_rdcr : decode 0b1110_000000000000000000000000_1011 = .ok (.rdcr 11) := by decide

/-- One reserved bit of each format, at the edge of the field beside it (95_test_vectors.md 2.3, 2.8, 2.9). -/
theorem test_decode_reserved_bits :
    decode 0x10011021 = .error .reservedBits ∧ decode 0x50000004 = .error .reservedBits ∧
    decode 0x60000001 = .error .reservedBits ∧ decode 0x70800000 = .error .reservedBits ∧
    decode 0x80FF0031 = .error .reservedBits ∧ decode 0xB1010000 = .error .reservedBits ∧
    decode 0xC0000100 = .error .reservedBits ∧ decode 0xE0000010 = .error .reservedBits := by decide

/-- The host's numbering of a row's bits gives the word itself. -/
theorem test_decodeTableWord : decodeTableWord 32 0x83000012 = some (.updb 3 0x12) := by decide

/-- The word placed for the next fetch is the one the next step runs. -/
theorem test_withFetchWord :
    after State.cfgPoly (step (State.reset.withFetchWord 32 0x10001021)) = some 0x1021 := by decide

/-! ## One step per command (95_test_vectors.md) -/

/-- 2.3: CFG_POLY written, ENG_POLY stays. -/
theorem test_setpoly :
    after (fun t => (t.cfgPoly, t.engPoly)) (exec (.setpoly 0x1021) State.reset) = some (0x1021, 0) := by decide

/-- 2.3: CFG_INIT written, ENG_INIT stays. -/
theorem test_setinit :
    after (fun t => (t.cfgInit, t.engInit)) (exec (.setinit 0xFFFF) State.reset) = some (0xFFFF, 0) := by decide

/-- 2.3: CFG_XOROUT written, ENG_XOROUT stays. -/
theorem test_setxor :
    after (fun t => (t.cfgXorout, t.engXorout)) (exec (.setxor 0xFFFF) State.reset) = some (0xFFFF, 0) := by
  decide

/-- 2.3: CFG_CHECK written, ENG_CHECK stays. -/
theorem test_setchk :
    after (fun t => (t.cfgCheck, t.engCheck)) (exec (.setchk 0xB4C8) State.reset) = some (0xB4C8, 0) := by decide

/-- 2.3: SETREF 0, 1 is the word 0x50000002 and sets CFG_REFOUT only. -/
theorem test_setref :
    after (fun t => (t.cfgRefin, t.cfgRefout)) (step (fed 0x50000002)) = some (false, true) := by decide

/-- P3 step 4: BUILD right after reset builds the engine of all-zero parameters. -/
theorem test_build_after_reset :
    after (fun t => (t.built, lookup t.table 0xFF)) (exec .build State.reset) = some (true, 0) := by
  decide +kernel

/-- P4 step 11: BUILD clears VALID, keeps C. -/
theorem test_build_invalidates :
    after (fun t => t.contexts[0]?) (exec .build (xmodem (oneValue 0xB915))) = some (some ⟨0xB915, false⟩) := by
  decide +kernel

/-- 2.4: INIT never reflects. -/
theorem test_init_unreflected :
    after (fun t => t.contexts[0]?) (exec (.init 0) (engine 0x8005 0x1234 true true 0 0 (oneValue 0))) =
      some (some ⟨0x1234, true⟩) := by decide

/-- 2.9: INIT needs an engine. -/
theorem test_init_notbuilt :
    reply (step (fed 0x70000000)) = some { status := .notbuilt, matchBit := false, data := 0 } := by decide

/-- 2.4, XMODEM, second byte: 0x2672 to 0x20B5. -/
theorem test_updb_xmodem :
    after (fun t => t.contexts[0]?) (exec (.updb 0 0x32) (xmodem (oneValue 0x2672))) =
      some (some ⟨0x20B5, true⟩) := by decide +kernel

/-- 2.4, MODBUS, first byte: 0xFFFF to 0x7E29. -/
theorem test_updb_modbus :
    after (fun t => t.contexts[0]?) (exec (.updb 0 0x31) (modbus (oneValue 0xFFFF))) =
      some (some ⟨0x7E29, true⟩) := by decide +kernel

/-- 2.5: reflection, then the mask. -/
theorem test_fin_reflects_then_masks :
    reply (exec (.fin 0) (engine 0 0 false true 0x0F0F 0 (oneValue 0x1234))) = some (okResp 0x00002347) := by
  decide

/-- P2 step 15: a peek leaves the register. -/
theorem test_fin_peek :
    (fun r => (reply r, after State.contexts r)) (exec (.fin 0) afterP2) =
      (some (okResp 0x000030BA), some afterP2.contexts) := by decide

/-- 2.8 row 1: the raw register, not the checksum. -/
theorem test_rdreg_raw : reply (exec (.rdreg 0) afterP2) = some (okResp 0x00005D0C) := by decide

/-- 2.9: RDREG needs no engine, only VALID. -/
theorem test_rdreg_uninit :
    recordAfter (step (fed 0xA0000000)) = some (.uninit, 0xA0000000) := by decide

/-- 2.9: WRREG needs no engine. -/
theorem test_wrreg_before_build :
    after (fun t => t.contexts[0]?) (step (fed 0xB0001234)) = some (some ⟨0x1234, true⟩) := by decide

/-- 2.8 row 22, for WRREG: c4 does not exist when NCTX = 4. -/
theorem test_wrreg_badctx :
    recordAfter (step (fed 0xB4000000)) = some (.badctx, 0xB4000000) := by decide

/-- 2.8 row 6. -/
theorem test_tblrd : reply (exec (.tblrd 0xFF) afterP2) = some (okResp 0x00000202) := by decide +kernel

/-- 2.9: TBLRD needs an engine. -/
theorem test_tblrd_notbuilt : recordAfter (step (fed 0xC0000000)) = some (.notbuilt, 0xC0000000) := by decide

/-- 2.10: the XMODEM check value matches. -/
theorem test_selftest_match :
    reply (exec .selftest (xmodem [])) = some { status := .ok, matchBit := true, data := 0x000031C3 } := by
  decide +kernel

/-- 2.10: a mismatch is no error. -/
theorem test_selftest_mismatch :
    reply (exec .selftest (engine 0xFFFF 0 false false 0 0 [])) =
      some { status := .ok, matchBit := false, data := 0x0000A435 } := by decide +kernel

/-- 2.8 row 7: BUILT, VALID of c0 to c2, ERRCODE 4. -/
theorem test_rdcr_status :
    reply (exec (.rdcr 0) { afterP2 with errcode := .uninit }) = some (okResp 0x00070041) := by decide

/-- 2.8 rows 12 and 19: ENG_REF and NCTX. -/
theorem test_rdcr_ref_and_nctx :
    reply (exec (.rdcr 5) afterP2) = some (okResp 3) ∧ reply (exec (.rdcr 12) afterP2) = some (okResp 4) := by
  decide

/-! ## The error rules and the port -/

/-- 2.9: ILLEGAL beats NOTBUILT, BADCTX beats NOTBUILT, NOTBUILT beats UNINIT. -/
theorem test_priority :
    recordAfter (step (fed 0x80FF0031)) = some (.illegal, 0x80FF0031) ∧
    recordAfter (step (fed 0x89000031)) = some (.badctx, 0x89000031) ∧
    recordAfter (step (fed 0x80000031)) = some (.notbuilt, 0x80000031) := by decide

/-- P3 steps 5 to 8: a later error is answered and not recorded. -/
theorem test_first_error_kept :
    (fun r => (reply r, recordAfter r))
        (exec (.fin 3) { afterP2 with errcode := .notbuilt, errcmd := 0x80000031 }) =
      (some (errResp .uninit), some (.notbuilt, 0x80000031)) := by decide

/-- 70_reset_and_hazards.md R230: reset gives no response and keeps NCTX. -/
theorem test_reset_action :
    after (fun t => (t.built, t.nctx, t.responses, t.cfgPoly)) (step (afterP2.present (.reset none))) =
      some (false, 4, [], 0) := by decide

/-- A text operand of UPDS, with a comma and a semicolon in it (30_encoding.md R93). -/
theorem test_assemble_upds :
    assembleLine "UPDS c1, \"a,;\" ; text".toList = .ok [0x81000061, 0x8100002C, 0x8100003B] := by decide

/-- Two aliases and a comment line (30_encoding.md R89, R94). -/
theorem test_assemble_lines :
    assemble ["RESETCTX c3".toList, "  ; nothing".toList, "PEEK c3".toList] =
      .ok [0x73000000, 0x93000000] := by decide

/-! ## Witnesses: every obligation's hypotheses are met, each clause at boundary values -/

/-- The largest context number. -/
def top : CtxNum := 15

/-- Reset, with NCTX = 16: every context number names a context. -/
def sixteen : State := State.resetWith 16 0

/-- The XMODEM engine with c0 holding 0. -/
def ready : State := xmodem (oneValue 0x0000)

theorem fed_port (w : Command) : (fed w).port = .command w :: [] := rfl

theorem engine_inv (poly init : Word) (ri ro : Bool) (xorout check v : Word) :
    Inv (engine poly init ri ro xorout check (oneValue v)) := by
  refine ⟨?_, fun n => lookup_buildTable poly n, rfl⟩
  exact ⟨(by decide : 1 ≤ 4), (by decide : 4 ≤ 16)⟩

theorem witness_DecodeInvertsEncode :
    (Instr.rdcr 12).WellFormed ∧ (Instr.wrreg top 0xFFFF).WellFormed := by decide

theorem witness_EncodeInvertsDecode :
    decode 0xE000000C = .ok (.rdcr 12) ∧ decode 0xBF00FFFF = .ok (.wrreg top 0xFFFF) := by decide

theorem witness_IllegalWordsFailIllegal :
    (fed 0xE000000D).port = .command 0xE000000D :: [] ∧ legal 0xE000000D = false := by decide

theorem witness_ReservedOpcodesNeverExecute :
    ((fed 0x0FFFFFFF).port = .command 0x0FFFFFFF :: [] ∧ opField 0x0FFFFFFF = 0x0) ∧
    ((fed 0xF0000000).port = .command 0xF0000000 :: [] ∧ opField 0xF0000000 = 0xF) ∧
    (fed 0x00000000).port = .command 0x00000000 :: [] ∧ (fed 0xFFFFFFFF).port = .command 0xFFFFFFFF :: [] := by
  decide

theorem witness_StepRunsTheDecodedCommand :
    (fed 0xE000000C).port = .command 0xE000000C :: [] ∧ decode 0xE000000C = .ok (.rdcr 12) := by decide

theorem witness_StepIsTheCompleteStep : (fed 0xFFFFFFFF).port = .command 0xFFFFFFFF :: [] := by decide

theorem witness_IdleKeepsAllState : State.reset.port = [] := rfl

theorem witness_ErrorsNeverStopTheBlock :
    (∃ t, exec (.rdreg 0) { afterP2 with errcode := .illegal } = .next t) ∧
    ({ afterP2 with errcode := .illegal } : State).errcode ≠ .ok ∧ (∀ sel, Instr.build ≠ .rdcr sel) ∧
    ∃ t, step (ready.present (.reset none)) = .next t :=
  ⟨⟨_, rfl⟩, by decide, by simp, _, rfl⟩

theorem witness_ResetActionSetsResetValues :
    (ready.present (.reset none)).port = .reset none :: [] ∧
    (afterP2.present (.reset (some 0x60000000))).port = .reset (some 0x60000000) :: [] ∧
    (afterP2.present (.reset (some 0x60000000))).contexts.length =
      (ready.present (.reset none)).contexts.length ∧
    (afterP2.present (.reset (some 0x60000000))).responses = (ready.present (.reset none)).responses := by
  decide

theorem witness_FailuresArePrecise :
    ∃ t, exec (.updb 0 0x31) State.reset = .next t ∧
      t.responses = State.reset.responses ++ [errResp .notbuilt] ∧ (errResp .notbuilt).status ≠ .ok :=
  ⟨_, rfl, by decide, by decide⟩

/-- One word for each of the four errors and one without, each with its rule's condition. -/
theorem witness_ErrorsInPriorityOrder :
    legal 0xE000000D = false ∧
    (legal 0x84000031 = true ∧ opField 0x84000031 ∈ ctxOps ∧ State.reset.nctx ≤ (ctxField 0x84000031).toNat) ∧
    (legal 0x83000031 = true ∧ ¬State.reset.nctx ≤ (ctxField 0x83000031).toNat ∧
      opField 0x83000031 ∈ engineOps ∧ State.reset.built = false) ∧
    (legal 0xA3000000 = true ∧ ¬State.reset.nctx ≤ (ctxField 0xA3000000).toNat ∧
      opField 0xA3000000 ∉ engineOps ∧ opField 0xA3000000 ∈ validOps ∧
      validAt State.reset (ctxField 0xA3000000).toNat = false) ∧
    (fed 0x83000031).port = .command 0x83000031 :: [] ∧ sixteen.nctx = 16 := by decide

/-- With ERRCODE = 0 a word that fails and one that succeeds, and a word that fails with an error recorded. -/
theorem witness_FirstErrorRecordIsSticky :
    ((∃ t, step (fed 0xE000000D) = .next t) ∧ (fed 0xE000000D).errcode = .ok ∧
      reply (step (fed 0xE000000D)) = some (errResp .illegal)) ∧
    ((∃ t, step (fed 0xE000000C) = .next t) ∧ (fed 0xE000000C).errcode = .ok ∧
      reply (step (fed 0xE000000C)) = some (okResp 4)) ∧
    (∃ t, step ({ fed 0xE000000D with errcode := .uninit } : State) = .next t) ∧
    ({ fed 0xE000000D with errcode := .uninit } : State).errcode ≠ .ok :=
  ⟨⟨⟨_, rfl⟩, rfl, by decide⟩, ⟨⟨_, rfl⟩, rfl, by decide⟩, ⟨_, rfl⟩, by decide⟩

/-- A SELFTEST that matches, a failing word, and one word for each kind of DATA. -/
theorem witness_OneResponsePerCommand :
    (ready.present (.command 0xD0000000)).port = .command 0xD0000000 :: [] ∧
    reply (step (ready.present (.command 0xD0000000))) =
      some { status := .ok, matchBit := true, data := ready.engCheck.setWidth 32 } ∧
    reply (step (fed 0xD0000000)) = some (errResp .notbuilt) ∧
    opField 0xB000FFFF ∈ ([0x1, 0x2, 0x3, 0x4, 0x5, 0x6, 0x7, 0x8, 0xB] : List (BitVec 4)) ∧
    opField 0xC00000FF ∈ ([0x9, 0xA, 0xC, 0xD] : List (BitVec 4)) ∧
    opField 0xE000000C = 0xE ∧ reply (step (fed 0xE000000C)) = some (okResp 4) := by decide +kernel

theorem witness_SetpolyWritesStagingPolynomial :
    (fed 0x1000FFFF).port = .command 0x1000FFFF :: [] ∧ (0x1000FFFF#32).extractLsb' 28 4 = 0x1#4 ∧
    (fed 0x10010000).port = .command 0x10010000 :: [] ∧ (0x10010000#32).extractLsb' 28 4 = 0x1#4 := by decide

theorem witness_SetinitWritesStagingInitialValue :
    (fed 0x2000FFFF).port = .command 0x2000FFFF :: [] ∧ (0x2000FFFF#32).extractLsb' 28 4 = 0x2#4 ∧
    (fed 0x28000000).port = .command 0x28000000 :: [] ∧ (0x28000000#32).extractLsb' 28 4 = 0x2#4 := by decide

/-- The last clause of SETINIT's statement, at the largest context number. -/
theorem witness_SetinitWritesStagingInitialValue_init :
    top.toNat < sixteen.nctx ∧ ∃ t u, exec (.setinit 0x1234) sixteen = .next t ∧ exec .build t = .next u :=
  ⟨by decide, _, _, rfl, rfl⟩

theorem witness_SetxorWritesStagingOutputMask :
    (fed 0x3000FFFF).port = .command 0x3000FFFF :: [] ∧ (0x3000FFFF#32).extractLsb' 28 4 = 0x3#4 ∧
    (fed 0x30010000).port = .command 0x30010000 :: [] ∧ (0x30010000#32).extractLsb' 28 4 = 0x3#4 := by decide

theorem witness_SetchkWritesStagingCheckValue :
    (fed 0x4000FFFF).port = .command 0x4000FFFF :: [] ∧ (0x4000FFFF#32).extractLsb' 28 4 = 0x4#4 ∧
    (fed 0x48000000).port = .command 0x48000000 :: [] ∧ (0x48000000#32).extractLsb' 28 4 = 0x4#4 := by decide

theorem witness_SetchkWritesStagingCheckValue_match :
    (∀ sel, Instr.selftest ≠ .rdcr sel) ∧ (∀ sel, Instr.fin 0 ≠ .rdcr sel) ∧ Instr.fin 0 ≠ .selftest :=
  ⟨by simp, by simp, by simp⟩

theorem witness_SetrefWritesStagingReflectFlags :
    (fed 0x50000003).port = .command 0x50000003 :: [] ∧ (0x50000003#32).extractLsb' 28 4 = 0x5#4 ∧
    (fed 0x50000004).port = .command 0x50000004 :: [] ∧ (0x50000004#32).extractLsb' 28 4 = 0x5#4 := by decide

theorem witness_BuildConstructsTheEngine :
    ((fed 0x60000000).port = .command 0x60000000 :: [] ∧ (0x60000000#32).extractLsb' 28 4 = 0x6#4 ∧
      (fed 0x60000001).port = .command 0x60000001 :: [] ∧ (0x60000001#32).extractLsb' 28 4 = 0x6#4) ∧
    ready.cfgPoly = 0x1021 ∧ ∃ t, exec .build ready = .next t :=
  ⟨by decide, rfl, _, rfl⟩

theorem witness_BuildEndsEveryComputation :
    (∃ t, exec .build sixteen = .next t) ∧ top.toNat < sixteen.nctx := ⟨⟨_, rfl⟩, by decide⟩

theorem witness_ConfigBuildsItsEngine :
    ({ State.reset with
        port := ((configExpansion 0x8005 0xFFFF true true 0xFFFF 0xB4C8).map
          fun i => .command (encode i)) ++ [.reset none] } : State).port =
      ((configExpansion 0x8005 0xFFFF true true 0xFFFF 0xB4C8).map
        fun i => .command (encode i)) ++ [.reset none] := rfl

theorem witness_InitStartsAComputation :
    (State.reset.nctx ≤ (4 : CtxNum).toNat) ∧
    ((3 : CtxNum).toNat < State.reset.nctx ∧ State.reset.built = false) ∧
    ((3 : CtxNum).toNat < ready.nctx ∧ ready.built = true) ∧
    ((fed 0x7F000000).port = .command 0x7F000000 :: [] ∧ (0x7F000000#32).extractLsb' 28 4 = 0x7#4) ∧
    ((fed 0x70800000).port = .command 0x70800000 :: [] ∧ (0x70800000#32).extractLsb' 28 4 = 0x7#4) := by
  decide

theorem witness_UpdbFeedsOneByte :
    (State.reset.nctx ≤ (4 : CtxNum).toNat) ∧
    ((3 : CtxNum).toNat < State.reset.nctx ∧ State.reset.built = false) ∧
    (ready.contexts[(3 : CtxNum).toNat]? = some ⟨0, false⟩ ∧ ready.built = true) ∧
    (afterP2.contexts[(2 : CtxNum).toNat]? = some ⟨0xECD2, true⟩ ∧ afterP2.built = true) ∧
    ((fed 0x8F0000FF).port = .command 0x8F0000FF :: [] ∧ (0x8F0000FF#32).extractLsb' 28 4 = 0x8#4) ∧
    ((fed 0x80000100).port = .command 0x80000100 :: [] ∧ (0x80000100#32).extractLsb' 28 4 = 0x8#4) := by
  decide

theorem witness_UpdbFeedsOneByte_example :
    Inv ready ∧ ready.built = true ∧ ready.engPoly = 0x1021 ∧ ready.engRefin = false ∧
    ready.contexts[0]? = some { value := 0x0000, valid := true } :=
  ⟨engine_inv _ _ _ _ _ _ _, rfl, rfl, rfl, rfl⟩

theorem witness_ReflectedUpdateExample :
    Inv (modbus (oneValue 0xFFFF)) ∧ (modbus (oneValue 0xFFFF)).built = true ∧
    (modbus (oneValue 0xFFFF)).engPoly = 0x8005 ∧ (modbus (oneValue 0xFFFF)).engRefin = true ∧
    (modbus (oneValue 0xFFFF)).contexts[0]? = some { value := 0xFFFF, valid := true } :=
  ⟨engine_inv _ _ _ _ _ _ _, rfl, rfl, rfl, rfl⟩

theorem witness_FinAnswersTheChecksum :
    (State.reset.nctx ≤ (4 : CtxNum).toNat) ∧
    ((3 : CtxNum).toNat < State.reset.nctx ∧ State.reset.built = false) ∧
    (afterP2.contexts[(3 : CtxNum).toNat]? = some ⟨0, false⟩ ∧ afterP2.built = true) ∧
    (afterP2.contexts[(2 : CtxNum).toNat]? = some ⟨0xECD2, true⟩ ∧ afterP2.built = true) ∧
    ((fed 0x9F000000).port = .command 0x9F000000 :: [] ∧ (0x9F000000#32).extractLsb' 28 4 = 0x9#4) ∧
    ((fed 0x90800000).port = .command 0x90800000 :: [] ∧ (0x90800000#32).extractLsb' 28 4 = 0x9#4) := by
  decide

theorem witness_SelftestComparesTheCheckValue :
    State.reset.built = false ∧ ready.built = true ∧
    ((fed 0xD0000000).port = .command 0xD0000000 :: [] ∧ (0xD0000000#32).extractLsb' 28 4 = 0xD#4) ∧
    ((fed 0xD8000000).port = .command 0xD8000000 :: [] ∧ (0xD8000000#32).extractLsb' 28 4 = 0xD#4) := by
  decide

theorem witness_SelftestComparesTheCheckValue_example :
    ready.table = buildTable 0x1021 ∧ ready.engInit = 0x0000 ∧ ready.engRefin = false ∧
    ready.engRefout = false ∧ ready.engXorout = 0x0000 ∧ ready.built = true ∧ ready.engCheck = 0x31C3 :=
  ⟨rfl, rfl, rfl, rfl, rfl, rfl, rfl⟩

theorem witness_ReferenceCheckValues :
    (ready.table = buildTable 0x1021 ∧ ready.engInit = 0x0000 ∧ ready.engRefin = false ∧
      ready.engRefout = false ∧ ready.engXorout = 0x0000) ∧
    (afterP2.table = buildTable 0x8005 ∧ afterP2.engInit = 0xFFFF ∧ afterP2.engRefin = true ∧
      afterP2.engRefout = true ∧ afterP2.engXorout = 0x0000) :=
  ⟨⟨rfl, rfl, rfl, rfl, rfl⟩, rfl, rfl, rfl, rfl, rfl⟩

theorem witness_EmptyMessageChecksum :
    (3 : CtxNum).toNat < afterP2.nctx ∧ afterP2.built = true ∧ ∃ t, exec (.init 3) afterP2 = .next t :=
  ⟨by decide, rfl, _, rfl⟩

theorem witness_UpdbSequenceAppliesUpdseq :
    ready.built = true ∧ ready.contexts[(0 : CtxNum).toNat]? = some { value := 0x0000, valid := true } ∧
    ({ ready with
        port := ((updsExpansion 0 [0x31, 0x32]).map fun i => .command (encode i)) ++ [.reset none] } : State).port =
      ((updsExpansion 0 [0x31, 0x32]).map fun i => .command (encode i)) ++ [.reset none] := by decide

theorem witness_ChecksumAnswersCrc :
    ready.built = true ∧ (3 : CtxNum).toNat < ready.nctx ∧
    ({ ready with
        port := ((checksumExpansion 3 []).map fun i => .command (encode i)) ++ [.reset none] } : State).port =
      ((checksumExpansion 3 []).map fun i => .command (encode i)) ++ [.reset none] := by decide

theorem witness_SavedRegisterResumesElsewhere :
    afterP2.built = true ∧ afterP2.contexts[(0 : CtxNum).toNat]? = some ⟨0x5D0C, true⟩ ∧
    (3 : CtxNum).toNat < afterP2.nctx ∧ ∃ t, exec (.wrreg 3 0x5D0C) afterP2 = .next t :=
  ⟨rfl, rfl, by decide, _, rfl⟩

theorem witness_RdregAnswersTheRegister :
    (State.reset.nctx ≤ (4 : CtxNum).toNat) ∧
    afterP2.contexts[(3 : CtxNum).toNat]? = some ⟨0, false⟩ ∧
    afterP2.contexts[(2 : CtxNum).toNat]? = some ⟨0xECD2, true⟩ ∧
    ((fed 0xAF000000).port = .command 0xAF000000 :: [] ∧ (0xAF000000#32).extractLsb' 28 4 = 0xA#4) ∧
    ((fed 0xA0800000).port = .command 0xA0800000 :: [] ∧ (0xA0800000#32).extractLsb' 28 4 = 0xA#4) := by
  decide

theorem witness_RdregAnswersTheRegister_example :
    Inv ready ∧ ready.built = true ∧ ready.engPoly = 0x1021 ∧ ready.engInit = 0x0000 ∧
    ready.engRefin = false ∧ 2 < ready.nctx ∧
    Inv ({ ready with port := [.command (encode (.init 2)), .command (encode (.updb 2 0x31)),
      .command 0xA2000000] } : State) :=
  ⟨engine_inv _ _ _ _ _ _ _, rfl, rfl, rfl, rfl, by decide, engine_inv _ _ _ _ _ _ _⟩

theorem witness_WrregWritesTheRegister_build :
    ∃ t u, exec (.wrreg 3 0xFFFF) State.reset = .next t ∧ exec .build t = .next u := ⟨_, _, rfl, rfl⟩

theorem witness_WrregWritesTheRegister :
    (State.reset.nctx ≤ (4 : CtxNum).toNat) ∧ (3 : CtxNum).toNat < State.reset.nctx ∧
    ((3 : CtxNum).toNat < ready.nctx ∧ ready.built = true) ∧
    ((fed 0xBF00FFFF).port = .command 0xBF00FFFF :: [] ∧ (0xBF00FFFF#32).extractLsb' 28 4 = 0xB#4) ∧
    ((fed 0xB0010000).port = .command 0xB0010000 :: [] ∧ (0xB0010000#32).extractLsb' 28 4 = 0xB#4) := by
  decide

theorem witness_TblrdAnswersTheEntry :
    State.reset.built = false ∧ (Inv ready ∧ ready.built = true ∧ ready.engPoly = 0x1021) ∧
    ((fed 0xC00000FF).port = .command 0xC00000FF :: [] ∧ (0xC00000FF#32).extractLsb' 28 4 = 0xC#4) ∧
    ((fed 0xC0000100).port = .command 0xC0000100 :: [] ∧ (0xC0000100#32).extractLsb' 28 4 = 0xC#4) :=
  ⟨rfl, ⟨engine_inv _ _ _ _ _ _ _, rfl, rfl⟩, by decide, by decide⟩

theorem witness_RdcrAnswersTheSelectedRegister :
    (12 : Sel).toNat ≤ 12 ∧ 13 ≤ (13 : Sel).toNat ∧
    ((fed 0xE000000C).port = .command 0xE000000C :: [] ∧ (0xE000000C#32).extractLsb' 28 4 = 0xE#4) ∧
    ((fed 0xE000000D).port = .command 0xE000000D :: [] ∧ (0xE000000D#32).extractLsb' 28 4 = 0xE#4) ∧
    ((fed 0xE0000010).port = .command 0xE0000010 :: [] ∧ (0xE0000010#32).extractLsb' 28 4 = 0xE#4) := by
  decide

/-- Bounds of the STATUS fields, with a context below NCTX and one at NCTX. -/
theorem witness_StatusWordLayout :
    (1 ≤ 3 ∧ 8 ≤ 15) ∧ ready.statusWord.getLsbD (16 + 0) = true ∧ validAt ready 0 = true ∧
    ¬15 < ready.nctx ∧ ready.statusWord.getLsbD (16 + 15) = false := by decide

theorem witness_ReadsHaveNoSideEffect :
    ReadsOnly (.fin 0) ∧ ∃ t, exec (.fin 0) afterP2 = .next t ∧
      t.responses = afterP2.responses ++ [okResp 0x000030BA] ∧ (okResp 0x000030BA).status = .ok :=
  ⟨trivial, _, rfl, by decide, rfl⟩

theorem witness_StagingWrittenOnlyBySetCommands :
    (∃ t, exec .build State.reset = .next t) ∧ (∀ v, Instr.build ≠ .setpoly v) ∧
    (∀ v, Instr.build ≠ .setinit v) ∧ (∀ v, Instr.build ≠ .setxor v) ∧ (∀ v, Instr.build ≠ .setchk v) ∧
    ∀ ri ro, Instr.build ≠ .setref ri ro :=
  ⟨⟨_, rfl⟩, by simp, by simp, by simp, by simp, by simp⟩

theorem witness_EngineWrittenOnlyByBuild :
    Instr.setpoly 0xFFFF ≠ .build ∧ ∃ t, exec (.setpoly 0xFFFF) ready = .next t := ⟨by simp, _, rfl⟩

theorem witness_ValidAndBuiltFollowTheCommands :
    (∃ t, exec (.wrreg 3 0xFFFF) State.reset = .next t) ∧
    (ready.present (.reset (some 0x60000000))).port = .reset (some 0x60000000) :: [] ∧
    ∃ t, step (ready.present (.reset (some 0x60000000))) = .next t :=
  ⟨⟨_, rfl⟩, rfl, _, rfl⟩

theorem witness_StagingWritesChangeNoEngineState :
    ∃ t, exec (.setref true true) ready = .next t := ⟨_, rfl⟩

theorem witness_ContextFrame :
    (∃ t, exec (.updb 0 0x31) ready = .next t) ∧ Instr.updb 0 0x31 ≠ .build ∧
    ¬Addresses top (.updb 0 0x31) ∧ (∃ t, exec (.fin 0) ready = .next t) ∧ (∀ n, Instr.fin 0 ≠ .init n) ∧
    (∀ n b, Instr.fin 0 ≠ .updb n b) ∧ (∀ n v, Instr.fin 0 ≠ .wrreg n v) ∧ Instr.fin 0 ≠ .build :=
  ⟨⟨_, rfl⟩, by simp, by simp [Addresses, top], ⟨_, rfl⟩, by simp, by simp, by simp, by simp⟩

/-- Two states that differ only in c1, and two commands on c0 and c1 that succeed. -/
theorem witness_ContextsDoNotInterfere :
    (Addresses 0 (.updb 0 0x35) ∧ (0 : CtxNum).toNat ≠ 1 ∧
      AgreeOff 1 afterP2 { afterP2 with contexts := afterP2.contexts.set 1 ⟨0xBEEF, false⟩ }) ∧
    (Addresses 0 (.updb 0 0x35) ∧ Addresses 1 (.fin 1) ∧ (0 : CtxNum) ≠ 1 ∧
      ∃ sa sb sab sba, exec (.updb 0 0x35) afterP2 = .next sa ∧
        sa.responses = afterP2.responses ++ [okResp 0] ∧ exec (.fin 1) afterP2 = .next sb ∧
        sb.responses = afterP2.responses ++ [okResp 0x00004B37] ∧ exec (.fin 1) sa = .next sab ∧
        exec (.updb 0 0x35) sb = .next sba) := by
  refine ⟨⟨rfl, by decide, rfl, rfl, fun k hk => ?_⟩, rfl, rfl, by decide, _, _, _, _, rfl, rfl, rfl, ?_, rfl, rfl⟩
  · exact List.getElem?_set_ne (Ne.symm hk)
  · decide

theorem witness_StepKeepsTheInvariant :
    Inv (ready.present (.command 0x80000031)) ∧ ∃ t, step (ready.present (.command 0x80000031)) = .next t :=
  ⟨engine_inv _ _ _ _ _ _ _, _, rfl⟩

/-- Two states with the same CFG_POLY and every other staging register different, and one with another. -/
theorem witness_SamePolynomialSameTable :
    (∃ t t', exec .build ready = .next t ∧
      exec .build (engine 0x1021 0xFFFF true true 0xFFFF 0 (oneValue 1)) = .next t') ∧
    ready.cfgPoly = (engine 0x1021 0xFFFF true true 0xFFFF 0 (oneValue 1)).cfgPoly ∧
    (∃ t, exec .build State.reset = .next t) ∧ ready.cfgPoly ≠ State.reset.cfgPoly :=
  ⟨⟨_, _, rfl, rfl⟩, rfl, ⟨_, rfl⟩, by decide⟩

/-- The zero polynomial's table: XOR-linear, with its own eight entries. -/
theorem witness_TableLaws :
    (∀ a b : Byte, lookup (buildTable 0) (a ^^^ b) = lookup (buildTable 0) a ^^^ lookup (buildTable 0) b) ∧
    (∀ k, k < 8 → lookup (buildTable 0) (1#8 <<< k) = lookup (buildTable 0) (1#8 <<< k)) ∧ 7 < 8 := by
  have zero : ∀ n : Byte, tableEntry 0 n = 0 := by decide +kernel
  have entry : ∀ n, lookup (buildTable 0) n = 0 := fun n => (lookup_buildTable 0 n).trans (zero n)
  exact ⟨fun a b => by simp only [entry]; rfl, fun _ _ => rfl, by decide⟩

theorem witness_ZeroPolynomialIsDegenerate :
    (engine 0x0000 0 false false 0 0 []).table = buildTable 0x0000 := rfl

end Sys2Proof.Tests
end

/-! The invariant at reset (00_scope.md R7, 10_state.md R36): every reset state of a block with 1 to 16
contexts meets `Inv`, whatever the free values of TABLE and the context registers are. -/
namespace Sys2Proof.Proofs.Scope
open Sys2Proof.Machine Sys2Proof.Safety

/-- NCTX is a parameter of the block (00_scope.md R7), so reset keeps it. -/
@[simp] theorem resetWith_nctx (n k : Nat) : (State.resetWith n k).nctx = n := by
  simp [State.nctx, State.resetWith, resetContexts]

/-- No engine is built (BUILT = 0), so `EngineAgrees` asks for the engine registers' reset values of
10_state.md R36 and says nothing of TABLE. -/
theorem engineAgrees_resetWith (n k : Nat) : EngineAgrees (State.resetWith n k) := by
  have notBuilt : (State.resetWith n k).built = false := rfl
  simp only [EngineAgrees, notBuilt, Bool.false_eq_true, if_false]
  exact ⟨rfl, rfl, rfl, rfl, rfl, rfl⟩

/-- No error is recorded, and the recorded word is 0 (10_state.md R31, R36). -/
theorem recordAgrees_resetWith (n k : Nat) : RecordAgrees (State.resetWith n k) :=
  show (State.resetWith n k).errcmd = 0 from rfl

theorem inv_resetWith {n : Nat} (atLeastOne : 1 ≤ n) (atMost16 : n ≤ 16) (k : Nat) :
    Inv (State.resetWith n k) := by
  refine ⟨?_, engineAgrees_resetWith n k, recordAgrees_resetWith n k⟩
  rw [resetWith_nctx]
  exact ⟨atLeastOne, atMost16⟩

/-- Settles O49: the reference value of NCTX lies in the range 1 to 16 that a reset state needs. -/
theorem invariantHoldsAtReset : Obligations.InvariantHoldsAtReset := by
  unfold Obligations.InvariantHoldsAtReset
  have atLeastOne : 1 ≤ Config.nctx := by decide
  have atMost16 : Config.nctx ≤ 16 := by decide
  exact inv_resetWith atLeastOne atMost16 0

end Sys2Proof.Proofs.Scope

/-! The state rules (10_state.md): what a command can do to the state, said once (`CommandEffect`), then the
frames of the staging registers, the engine and the contexts, and the invariant of every step. -/
namespace Sys2Proof.Proofs.StateRules
open Sys2Proof.Machine Sys2Proof.Safety

variable {s t : State} {i : Instr} {n k : CtxNum} {c : Context} {e : ErrCode} {w : Command}

/-! ### The word of a command -/

/-- OP of each command (30_encoding.md R71). -/
def opcodeOf : Instr → BitVec 4
  | .setpoly _ => 0x1
  | .setinit _ => 0x2
  | .setxor _ => 0x3
  | .setchk _ => 0x4
  | .setref _ _ => 0x5
  | .build => 0x6
  | .init _ => 0x7
  | .updb _ _ => 0x8
  | .fin _ => 0x9
  | .rdreg _ => 0xA
  | .wrreg _ _ => 0xB
  | .tblrd _ => 0xC
  | .selftest => 0xD
  | .rdcr _ => 0xE

@[simp] theorem opField_encode (i : Instr) : opField (encode i) = opcodeOf i := by
  cases i <;> exact opField_opWord _ _

/-- The word of a command is legal exactly if the command is well-formed (30_encoding.md R83, R86, R88). -/
theorem legal_encode (i : Instr) : legal (encode i) = i.wf := by
  cases i with
  | setpoly v => exact Laws.EncodesLegally.setpoly v rfl
  | setinit v => exact Laws.EncodesLegally.setinit v rfl
  | setxor v => exact Laws.EncodesLegally.setxor v rfl
  | setchk v => exact Laws.EncodesLegally.setchk v rfl
  | setref ri ro => exact Laws.EncodesLegally.setref ri ro rfl
  | build => exact Laws.EncodesLegally.build rfl
  | init n => exact Laws.EncodesLegally.init n rfl
  | updb n b => exact Laws.EncodesLegally.updb n b rfl
  | fin n => exact Laws.EncodesLegally.fin n rfl
  | rdreg n => exact Laws.EncodesLegally.rdreg n rfl
  | wrreg n v => exact Laws.EncodesLegally.wrreg n v rfl
  | tblrd b => exact Laws.EncodesLegally.tblrd b rfl
  | selftest => exact Laws.EncodesLegally.selftest rfl
  | rdcr sel =>
    simp [legal, encode, opField_opWord, reserved_of_formatS, sel_of_formatS, Instr.wf,
      -BitVec.extractLsb'_toNat]

/-- Every command but RDCR is well-formed whatever its operands. -/
theorem wellFormed_of_opcode_ne_rdcr (notRdcr : opcodeOf i ≠ 0xE) : i.WellFormed := by
  cases i with
  | rdcr sel => exact absurd rfl notRdcr
  | _ => rfl

/-- The commands with a CTX field are those of the context opcodes, and CTX names the context they address
(30_encoding.md R75 to R77). -/
theorem addresses_iff (n : CtxNum) (i : Instr) :
    Addresses n i ↔ opcodeOf i ∈ ctxOps ∧ ctxField (encode i) = n := by
  cases i <;>
    simp [Addresses, opcodeOf, ctxOps, ctxField, encode, ctx_of_formatC, ctx_of_formatCB, ctx_of_formatCI]

/-- A word whose reserved bits are checked and refused has one of them set. -/
theorem withReserved_eq_error {zero : Bool} {d : DecodeError} (h : withReserved zero i = .error d) :
    zero = false := by
  cases zero with
  | true => simp [withReserved] at h
  | false => rfl

/-- A word that does not decode is not legal (30_encoding.md R83): each format refuses a word by its own
clause of R83. -/
theorem legal_eq_false_of_decode_error {d : DecodeError} (h : decode w = .error d) : legal w = false := by
  unfold decode at h
  unfold legal
  split at h <;> rename_i op <;> simp only [op]
  case h_14 => -- RDCR, the one format that checks a field beside its reserved bits
    unfold decodeS at h
    split at h
    · exact Bool.and_eq_false_iff.2 (.inl (withReserved_eq_error h))
    · rename_i large
      exact Bool.and_eq_false_iff.2 (.inr (decide_eq_false large))
  all_goals exact withReserved_eq_error h

/-! ### What a command can do -/

/-- The errors a command meets, each with its rule's condition (60_exceptions.md R201 to R204) and what the
checks before it leave true (R207). -/
inductive FailsWith (s : State) (i : Instr) : ErrCode → Prop where
  | illegal (unencodable : ¬i.WellFormed) : FailsWith s i .illegal
  | badctx (n : CtxNum) (named : Addresses n i) (outside : s.nctx ≤ n.toNat) : FailsWith s i .badctx
  | notbuilt (needsEngine : opcodeOf i ∈ engineOps) (inside : ∀ n, Addresses n i → n.toNat < s.nctx)
      (noEngine : s.built = false) : FailsWith s i .notbuilt
  | uninit (n : CtxNum) (c : Context) (readsContext : opcodeOf i ∈ validOps) (named : Addresses n i)
      (held : s.contexts[n.toNat]? = some c) (empty : c.valid = false) : FailsWith s i .uninit

/-- Every next state a command can leave: one case per command that writes, one for the reading commands,
one for a failure (`exec_effect` says that there is no other). -/
inductive CommandEffect (s : State) : Instr → State → Prop where
  | setpoly (v : Word) : CommandEffect s (.setpoly v) ({ s with cfgPoly := v }.respond 0)
  | setinit (v : Word) : CommandEffect s (.setinit v) ({ s with cfgInit := v }.respond 0)
  | setxor (v : Word) : CommandEffect s (.setxor v) ({ s with cfgXorout := v }.respond 0)
  | setchk (v : Word) : CommandEffect s (.setchk v) ({ s with cfgCheck := v }.respond 0)
  | setref (ri ro : Bool) :
      CommandEffect s (.setref ri ro) ({ s with cfgRefin := ri, cfgRefout := ro }.respond 0)
  | build : CommandEffect s .build (s.latchEngine.invalidateAll.respond 0)
  | init (n : CtxNum) (inside : n.toNat < s.nctx) (engine : s.built = true) :
      CommandEffect s (.init n) ((s.writeContext n s.engInit).respond 0)
  | updb (n : CtxNum) (b : Byte) (c : Context) (held : s.contexts[n.toNat]? = some c)
      (engine : s.built = true) (valid : c.valid = true) :
      CommandEffect s (.updb n b) ((s.advanceContext n c (s.upd c.value b)).respond 0)
  | wrreg (n : CtxNum) (v : Word) (inside : n.toNat < s.nctx) :
      CommandEffect s (.wrreg n v) ((s.writeContext n v).respond 0)
  | read (i : Instr) (r : Response) (reads : ReadsOnly i) : CommandEffect s i (s.answer r)
  | fail (i : Instr) (e : ErrCode) (fails : FailsWith s i e) : CommandEffect s i (failed e (encode i) s)

/-- The result is a next state that the command can leave. -/
def Answers (s : State) (i : Instr) (r : Result) : Prop := ∃ t, r = .next t ∧ CommandEffect s i t

/-- A raised error leaves the state `failed` says (60_exceptions.md R205, R206). -/
theorem answers_raise (fails : FailsWith s i e) : Answers s i (s.raise e (encode i)) :=
  ⟨_, raise_eq s e (encode i), .fail i e fails⟩

/-- A context that is held has a number below NCTX. -/
theorem lt_nctx_of_held (held : s.contexts[n.toNat]? = some c) : n.toNat < s.nctx :=
  (List.getElem?_eq_some_iff.1 held).1

/-- A command names one context only. -/
theorem addresses_unique (hn : Addresses n i) (hk : Addresses k i) : n = k :=
  ((addresses_iff n i).1 hn).2.symm.trans ((addresses_iff k i).1 hk).2

theorem answers_checkCtx {f : Context → Result} (named : Addresses n i)
    (next : ∀ c, s.contexts[n.toNat]? = some c → Answers s i (f c)) :
    Answers s i (s.checkCtx (encode i) n f) := by
  obtain ⟨outside, raised⟩ | ⟨c, held, passed⟩ := checkCtx_cases s (encode i) n f
  · rw [raised]
    exact answers_raise (.badctx n named outside)
  · rw [passed]
    exact next c held

theorem answers_checkBuilt {r : Result} (needsEngine : opcodeOf i ∈ engineOps)
    (inside : ∀ n, Addresses n i → n.toNat < s.nctx) (next : s.built = true → Answers s i r) :
    Answers s i (s.checkBuilt (encode i) r) := by
  cases engine : s.built with
  | true =>
    rw [checkBuilt_of_true engine]
    exact next engine
  | false =>
    rw [checkBuilt_of_false engine]
    exact answers_raise (.notbuilt needsEngine inside engine)

theorem answers_checkValid {r : Result} (readsContext : opcodeOf i ∈ validOps) (named : Addresses n i)
    (held : s.contexts[n.toNat]? = some c) (next : c.valid = true → Answers s i r) :
    Answers s i (s.checkValid (encode i) c r) := by
  cases valid : c.valid with
  | true =>
    rw [checkValid_of_true valid]
    exact next valid
  | false =>
    rw [checkValid_of_false valid]
    exact answers_raise (.uninit n c readsContext named held valid)

/-- The engine check of a command that names a context, once its context check has passed. -/
theorem answers_checkBuilt_of_held {r : Result} (needsEngine : opcodeOf i ∈ engineOps)
    (named : Addresses n i) (held : s.contexts[n.toNat]? = some c)
    (next : s.built = true → Answers s i r) : Answers s i (s.checkBuilt (encode i) r) :=
  answers_checkBuilt needsEngine (fun _ hk => addresses_unique named hk ▸ lt_nctx_of_held held) next

/-- A selector with no register is none that a well-formed RDCR has (30_encoding.md R86). -/
theorem not_wellFormed_of_selected_none {sel : Sel} (h : s.selected sel = none) :
    ¬(Instr.rdcr sel).WellFormed := by
  intro wellFormed
  have bound : sel.toNat ≤ 12 := of_decide_eq_true wellFormed
  unfold State.selected at h
  interval_cases sel.toNat <;> cases h

/-- Every command, in every state, leaves one of the next states of `CommandEffect`. -/
theorem exec_effect (i : Instr) (s : State) : Answers s i (exec i s) := by
  cases i with
  | setpoly v => exact ⟨_, rfl, .setpoly v⟩
  | setinit v => exact ⟨_, rfl, .setinit v⟩
  | setxor v => exact ⟨_, rfl, .setxor v⟩
  | setchk v => exact ⟨_, rfl, .setchk v⟩
  | setref ri ro => exact ⟨_, rfl, .setref ri ro⟩
  | build => exact ⟨_, rfl, .build⟩
  | init n =>
    refine answers_checkCtx rfl fun c held => ?_
    refine answers_checkBuilt_of_held (by simp [opcodeOf, engineOps]) rfl held fun engine => ?_
    exact ⟨_, rfl, .init n (lt_nctx_of_held held) engine⟩
  | updb n b =>
    refine answers_checkCtx rfl fun c held => ?_
    refine answers_checkBuilt_of_held (by simp [opcodeOf, engineOps]) rfl held fun engine => ?_
    refine answers_checkValid (by simp [opcodeOf, validOps]) rfl held fun valid => ?_
    exact ⟨_, rfl, .updb n b c held engine valid⟩
  | fin n =>
    refine answers_checkCtx rfl fun c held => ?_
    refine answers_checkBuilt_of_held (by simp [opcodeOf, engineOps]) rfl held fun _ => ?_
    refine answers_checkValid (by simp [opcodeOf, validOps]) rfl held fun _ => ?_
    exact ⟨_, rfl, .read _ _ trivial⟩
  | rdreg n =>
    refine answers_checkCtx rfl fun c held => ?_
    refine answers_checkValid (by simp [opcodeOf, validOps]) rfl held fun _ => ?_
    exact ⟨_, rfl, .read _ _ trivial⟩
  | wrreg n v =>
    refine answers_checkCtx rfl fun c held => ?_
    exact ⟨_, rfl, .wrreg n v (lt_nctx_of_held held)⟩
  | tblrd b =>
    refine answers_checkBuilt (by simp [opcodeOf, engineOps]) (fun _ named => named.elim) fun _ => ?_
    exact ⟨_, rfl, .read _ _ trivial⟩
  | selftest =>
    refine answers_checkBuilt (by simp [opcodeOf, engineOps]) (fun _ named => named.elim) fun _ => ?_
    exact ⟨_, rfl, .read _ _ trivial⟩
  | rdcr sel =>
    show Answers s (.rdcr sel) (execRdcr sel s)
    unfold execRdcr
    split
    · exact ⟨_, rfl, .read _ _ trivial⟩
    · next unselected => exact answers_raise (.illegal (not_wellFormed_of_selected_none unselected))

theorem effect_of_exec (h : exec i s = .next t) : CommandEffect s i t := by
  obtain ⟨u, hu, effect⟩ := exec_effect i s
  rw [h] at hu
  cases hu
  exact effect

/-! ### The staging registers and the engine -/

/-- Settles O42: the only effects that write a staging register are those of the five SET commands. -/
theorem stagingWrittenOnlyBySetCommands : Obligations.StagingWrittenOnlyBySetCommands := by
  unfold Obligations.StagingWrittenOnlyBySetCommands
  intro i s t h
  cases effect_of_exec h with
  | setpoly _ | setinit _ | setxor _ | setchk _ | setref _ _ => simp
  | _ => exact ⟨fun _ => rfl, fun _ => rfl, fun _ => rfl, fun _ => rfl, fun _ => ⟨rfl, rfl⟩⟩

/-- Settles O43: the only effect that writes the engine is BUILD's latch. -/
theorem engineWrittenOnlyByBuild : Obligations.EngineWrittenOnlyByBuild := by
  unfold Obligations.EngineWrittenOnlyByBuild
  intro i s t notBuild h
  cases effect_of_exec h with
  | build => exact absurd rfl notBuild
  | _ => exact ⟨rfl, rfl, rfl, rfl, rfl, rfl, rfl, rfl⟩

/-! ### The contexts -/

/-- NCTX is a parameter (00_scope.md R7): every context write keeps the number of contexts. -/
theorem exec_nctx (h : exec i s = .next t) : t.nctx = s.nctx := by
  cases effect_of_exec h with
  | build => simp [State.nctx]
  | init n => simp [State.nctx]
  | updb n => simp [State.nctx]
  | wrreg n => simp [State.nctx]
  | _ => rfl

/-- A command but BUILD changes no context but the one it names, whatever the number. -/
theorem exec_context_of_not_named {m : Nat} (h : exec i s = .next t) (notBuild : i ≠ .build)
    (other : ∀ n, Addresses n i → n.toNat ≠ m) : t.contexts[m]? = s.contexts[m]? := by
  cases effect_of_exec h with
  | build => exact absurd rfl notBuild
  | init n => exact List.getElem?_set_ne (other n rfl)
  | updb n => exact List.getElem?_set_ne (other n rfl)
  | wrreg n => exact List.getElem?_set_ne (other n rfl)
  | _ => rfl

theorem exec_contexts_of_not_writing (h : exec i s = .next t) (notInit : ∀ n, i ≠ .init n)
    (notUpdb : ∀ n b, i ≠ .updb n b) (notWrreg : ∀ n v, i ≠ .wrreg n v) (notBuild : i ≠ .build) :
    t.contexts = s.contexts := by
  cases effect_of_exec h with
  | build => exact absurd rfl notBuild
  | init n => exact absurd rfl (notInit n)
  | updb n b => exact absurd rfl (notUpdb n b)
  | wrreg n v => exact absurd rfl (notWrreg n v)
  | _ => rfl

/-- Settles O46: a context number has four bits, so no command names a context of 16 or above. -/
theorem contextFrame : Obligations.ContextFrame := by
  unfold Obligations.ContextFrame
  intro i s t h
  refine ⟨exec_nctx h, fun notBuild k notNamed => ?_, exec_contexts_of_not_writing h,
    fun k large notBuild => ?_⟩
  · refine exec_context_of_not_named h notBuild fun n named same => notNamed ?_
    rwa [← BitVec.eq_of_toNat_eq same]
  · exact exec_context_of_not_named h notBuild fun n _ => by omega

/-! ### VALID and BUILT -/

/-- VALID after a context write: that of the written context, and of the others as it was. -/
theorem validAt_of_contexts_set {d : Context} (written : t.contexts = s.contexts.set n.toNat d)
    (inside : n.toNat < s.nctx) :
    validAt t k.toNat = if n = k then d.valid else validAt s k.toNat := by
  unfold validAt
  rw [written]
  split
  · next same =>
    subst same
    rw [List.getElem?_set_self inside]
    rfl
  · next other =>
    rw [List.getElem?_set_ne fun same => other (BitVec.eq_of_toNat_eq same)]

theorem validAt_of_held {m : Nat} (held : s.contexts[m]? = some c) : validAt s m = c.valid := by
  simp [validAt, held]

/-- BUILD clears every VALID bit (40_configuration.md R112). -/
theorem validAt_invalidateAll (s : State) (m : Nat) : validAt s.invalidateAll m = false := by
  unfold validAt
  rw [invalidateAll_contexts, List.getElem?_map]
  cases s.contexts[m]? <;> rfl

/-- Reset clears every VALID bit, whatever NCTX and the free values (10_state.md R36). -/
theorem validAt_resetWith (nctx resets m : Nat) : validAt (State.resetWith nctx resets) m = false := by
  cases held : (State.resetWith nctx resets).contexts[m]? with
  | none => simp [validAt, held]
  | some c =>
    obtain ⟨j, _, rfl⟩ := List.mem_map.1 (List.mem_of_getElem? held)
    exact validAt_of_held held

/-- The command writes C[k] and sets VALID[k]: a successful INIT or WRREG (10_state.md R23). -/
def Fills (s : State) (k : CtxNum) (i : Instr) : Prop :=
  k.toNat < s.nctx ∧ ((i = .init k ∧ s.built = true) ∨ ∃ v, i = .wrreg k v)

/-- A command that fails fills no context: INIT fails only without the context or the engine, WRREG only
without the context. -/
theorem FailsWith.not_fills (fails : FailsWith s i e) : ¬Fills s k i := by
  rintro ⟨inside, writes⟩
  have named : Addresses k i := by
    obtain ⟨rfl, _⟩ | ⟨v, rfl⟩ := writes <;> rfl
  cases fails with
  | illegal unencodable => obtain ⟨rfl, _⟩ | ⟨v, rfl⟩ := writes <;> exact unencodable rfl
  | badctx n named' outside =>
    rw [addresses_unique named' named] at outside
    exact absurd inside (Nat.not_lt.2 outside)
  | notbuilt needsEngine _ noEngine =>
    obtain ⟨_, engine⟩ | ⟨v, rfl⟩ := writes
    · simp [engine] at noEngine
    · simp [opcodeOf, engineOps] at needsEngine
  | uninit n c readsContext =>
    obtain ⟨rfl, _⟩ | ⟨v, rfl⟩ := writes <;> simp [opcodeOf, validOps] at readsContext

/-- BUILD does not fail once its word is legal (40_configuration.md R114). -/
theorem FailsWith.ne_build (fails : FailsWith s i e) : i ≠ .build := by
  rintro rfl
  cases fails with
  | illegal unencodable => exact unencodable rfl
  | badctx n named => exact named
  | notbuilt needsEngine => simp [opcodeOf, engineOps] at needsEngine
  | uninit n c readsContext => simp [opcodeOf, validOps] at readsContext

theorem not_fills_of_readsOnly (reads : ReadsOnly i) : ¬Fills s k i := by
  rintro ⟨_, ⟨rfl, _⟩ | ⟨v, rfl⟩⟩ <;> exact reads

theorem ne_build_of_readsOnly (reads : ReadsOnly i) : i ≠ .build := by
  rintro rfl
  exact reads

theorem exec_validAt_iff (h : exec i s = .next t) (k : CtxNum) :
    validAt t k.toNat = true ↔ Fills s k i ∨ (validAt s k.toNat = true ∧ i ≠ .build) := by
  cases effect_of_exec h with
  | build =>
    have cleared : validAt (s.latchEngine.invalidateAll.respond 0) k.toNat = false :=
      validAt_invalidateAll s.latchEngine k.toNat
    rw [cleared]
    simp [Fills]
  | init n inside engine =>
    rw [validAt_of_contexts_set (respond_contexts _ _) inside]
    by_cases same : n = k
    · subst same; simp [Fills, inside, engine]
    · simp [Fills, same]
  | updb n b c held =>
    rw [validAt_of_contexts_set (respond_contexts _ _) (lt_nctx_of_held held)]
    by_cases same : n = k
    · subst same; simp [Fills, validAt_of_held held]
    · simp [Fills, same]
  | wrreg n v inside =>
    rw [validAt_of_contexts_set (respond_contexts _ _) inside]
    by_cases same : n = k
    · subst same; simp [Fills, inside]
    · simp [Fills, same]
  | read i r reads => simp [not_fills_of_readsOnly reads, ne_build_of_readsOnly reads, validAt]
  | fail i e fails => simp [fails.not_fills, fails.ne_build, validAt, failed]
  | _ => simp [Fills, validAt]

theorem exec_built_iff (h : exec i s = .next t) : t.built = true ↔ i = .build ∨ s.built = true := by
  cases effect_of_exec h with
  | build => simp
  | read i r reads => simp [ne_build_of_readsOnly reads]
  | fail i e fails => simp [fails.ne_build, failed]
  | _ => simp

/-- A step on a reset leaves the reset state of the same NCTX. -/
theorem step_of_reset {abandoned : Option Command} {rest : List HostAction}
    (first : s.port = .reset abandoned :: rest) :
    step s = .next { s with port := rest }.applyReset := by
  simp [step, State.take, first]

/-- Settles O44, by the effects of the command, and by the reset state for the last clause. -/
theorem validAndBuiltFollowTheCommands : Obligations.ValidAndBuiltFollowTheCommands := by
  unfold Obligations.ValidAndBuiltFollowTheCommands
  refine ⟨fun i s t k h => ⟨exec_validAt_iff h k, exec_built_iff h⟩, fun s t abandoned rest first h => ?_⟩
  rw [step_of_reset first] at h
  cases h
  exact ⟨rfl, validAt_resetWith s.nctx (s.resets + 1)⟩

/-! ### STATUS and reset -/

theorem validBits_getLsbD {m : Nat} (bound : m < 16) : s.validBits.getLsbD m = validAt s m := by
  unfold State.validBits validAt
  rw [BitVec.getLsbD_ofFnLE, dif_pos bound]
  cases s.contexts[m]? <;> rfl

theorem validAt_eq_false_of_nctx_le {m : Nat} (outside : s.nctx ≤ m) : validAt s m = false := by
  simp [validAt, List.getElem?_eq_none outside]

/-- The fields of STATUS, from bit 0 up (10_state.md R32). -/
theorem statusWord_getLsbD (s : State) (m : Nat) :
    s.statusWord.getLsbD m =
      if m < 1 then (BitVec.ofBool s.built).getLsbD m
      else if m - 1 < 3 then false
      else if m - 4 < 4 then s.errcode.bits.getLsbD (m - 4)
      else if m - 8 < 8 then false
      else s.validBits.getLsbD (m - 16) := by
  simp only [State.statusWord, BitVec.getLsbD_append, BitVec.getLsbD_zero, Nat.sub_sub]

/-- ERRCODE is the four bits from bit 4, above BUILT and three zeros (10_state.md R32). -/
theorem statusWord_errcode (s : State) : s.statusWord.extractLsb' 4 4 = s.errcode.bits :=
  (extract_above (s.validBits ++ 0#8 ++ s.errcode.bits ++ 0#3) (BitVec.ofBool s.built) 3 4).trans
    ((extract_above (s.validBits ++ 0#8 ++ s.errcode.bits) 0#3 0 4).trans
      (extract_low (s.validBits ++ 0#8) s.errcode.bits))

/-- Settles O40: the fields one by one, and RDCR's selector 0 names STATUS. -/
theorem statusWordLayout : Obligations.StatusWordLayout := by
  unfold Obligations.StatusWordLayout
  intro s
  refine ⟨?_, fun k low high => ?_, statusWord_errcode s, fun k low high => ?_, fun m bound => ?_, rfl⟩
  · rw [statusWord_getLsbD, if_pos Nat.one_pos]
    cases s.built <;> rfl
  · rw [statusWord_getLsbD, if_neg (by omega), if_pos (by omega)]
  · rw [statusWord_getLsbD, if_neg (by omega), if_neg (by omega), if_neg (by omega), if_pos (by omega)]
  · rw [statusWord_getLsbD, if_neg (by omega), if_neg (by omega), if_neg (by omega), if_neg (by omega),
      Nat.add_sub_cancel_left, validBits_getLsbD (by omega)]
    split
    · rfl
    · next outside => exact validAt_eq_false_of_nctx_le (by omega)

/-- Settles O12: the reset values as `State.resetWith` gives them, and VALID by `validAt_resetWith`. -/
theorem resetStateValues : Obligations.ResetStateValues :=
  ⟨rfl, rfl, rfl, rfl, rfl, rfl, rfl, rfl, rfl, rfl, rfl, rfl, rfl,
    validAt_resetWith Config.nctx 0, rfl, rfl⟩

/-! ### The invariant -/

/-- The record of an error a command meets agrees with the command's word (60_exceptions.md R206). -/
theorem FailsWith.recordAgrees (fails : FailsWith s i e) :
    RecordAgrees { s with errcode := e, errcmd := encode i } := by
  have legalOf (notRdcr : opcodeOf i ≠ 0xE) : legal (encode i) = true :=
    (legal_encode i).trans (wellFormed_of_opcode_ne_rdcr notRdcr)
  cases fails with
  | illegal unencodable => exact (legal_encode i).trans (Bool.eq_false_iff.2 unencodable)
  | badctx n named outside =>
    obtain ⟨op, rfl⟩ := (addresses_iff n i).1 named
    exact ⟨legalOf fun h => by simp [h, ctxOps] at op, by rwa [opField_encode], outside⟩
  | notbuilt needsEngine inside noEngine =>
    refine ⟨legalOf fun h => by simp [h, engineOps] at needsEngine, by rwa [opField_encode], fun op => ?_⟩
    rw [opField_encode] at op
    exact inside _ ((addresses_iff _ i).2 ⟨op, rfl⟩)
  | uninit n c readsContext named held empty =>
    obtain ⟨op, rfl⟩ := (addresses_iff n i).1 named
    exact ⟨legalOf fun h => by simp [h, ctxOps] at op, by rwa [opField_encode], lt_nctx_of_held held⟩

/-- `RecordAgrees` is about NCTX and the record alone. -/
theorem recordAgrees_congr (agrees : RecordAgrees s) (nctx : t.nctx = s.nctx)
    (code : t.errcode = s.errcode) (cmd : t.errcmd = s.errcmd) : RecordAgrees t := by
  unfold RecordAgrees at agrees ⊢
  rwa [nctx, code, cmd]

/-- A failure keeps the agreement: an earlier error stays (R206), a first one agrees with its own word. -/
theorem recordAgrees_failed (agrees : RecordAgrees s)
    (first : RecordAgrees { s with errcode := e, errcmd := w }) : RecordAgrees (failed e w s) := by
  by_cases clean : s.errcode = .ok
  · exact recordAgrees_congr first rfl (if_pos clean) (if_pos clean)
  · exact recordAgrees_congr agrees rfl (if_neg clean) (if_neg clean)

theorem exec_recordAgrees (h : exec i s = .next t) (agrees : RecordAgrees s) : RecordAgrees t := by
  have nctx := exec_nctx h
  cases effect_of_exec h with
  | fail i e fails => exact recordAgrees_failed agrees fails.recordAgrees
  | _ => exact recordAgrees_congr agrees nctx rfl rfl

/-- BUILD leaves the table of the polynomial it latches (10_state.md R29); no other command touches table or
engine. -/
theorem exec_engineAgrees (h : exec i s = .next t) (agrees : EngineAgrees s) : EngineAgrees t := by
  by_cases build : i = .build
  · subst build
    cases h
    exact lookup_buildTable s.cfgPoly
  · obtain ⟨poly, init, xorout, check, refin, refout, table, built⟩ :=
      engineWrittenOnlyByBuild i s t build h
    simpa only [EngineAgrees, poly, init, xorout, check, refin, refout, table, built] using agrees

theorem exec_inv (h : exec i s = .next t) (inv : Inv s) : Inv t := by
  obtain ⟨bounds, engine, record⟩ := inv
  refine ⟨?_, exec_engineAgrees h engine, exec_recordAgrees h record⟩
  rwa [exec_nctx h]

/-- A word that is not legal records ILLEGAL with the word itself (60_exceptions.md R201, R206). -/
theorem inv_failed_illegal (inv : Inv s) (notLegal : legal w = false) : Inv (failed .illegal w s) := by
  obtain ⟨bounds, engine, record⟩ := inv
  exact ⟨bounds, engine, recordAgrees_failed record notLegal⟩

/-- Reset keeps NCTX, so its bounds; the rest of the invariant holds in every reset state. -/
theorem inv_applyReset (inv : Inv s) : Inv s.applyReset := by
  obtain ⟨⟨atLeastOne, atMost16⟩, _⟩ := inv
  exact Scope.inv_resetWith atLeastOne atMost16 (s.resets + 1)

/-- Settles O50: by the four kinds of step. -/
theorem stepKeepsTheInvariant : Obligations.StepKeepsTheInvariant := by
  unfold Obligations.StepKeepsTheInvariant
  intro s t inv h
  have taken (rest : List HostAction) : Inv { s with port := rest } := inv
  obtain ⟨_, idle⟩ | ⟨_, rest, _, reset⟩ | ⟨w, rest, i, _, _, command⟩ | ⟨w, rest, d, _, undecoded, rejected⟩ :=
    step_cases s
  · cases idle.symm.trans h
    exact inv
  · cases reset.symm.trans h
    exact inv_applyReset (taken rest)
  · exact exec_inv (command.symm.trans h) (taken rest)
  · rw [raise_eq] at rejected
    cases rejected.symm.trans h
    exact inv_failed_illegal (taken rest) (legal_eq_false_of_decode_error undecoded)

end Sys2Proof.Proofs.StateRules

/-! The rules of stored state (20_memory.md): the adapter's two bytes (R55), the reading commands (R59), and
the independence of the contexts (R65). A command that names context k reacts to the engine and to context k
alone (`exec_local`): on every state that holds those, it meets the same error or makes the same change of
context k with the same response (`Reaction`). -/
namespace Sys2Proof.Proofs.MemoryRules
open Sys2Proof.Machine Sys2Proof.Safety Sys2Proof.Proofs.StateRules

variable {s t u : State} {i : Instr} {n k : CtxNum} {m : Nat} {e : ErrCode} {w : Command}
  {r q : Response}

/-! ### The serialized checksum -/

/-- Settles O57: the two bytes are neighbouring slices of the checksum. -/
theorem serializedHighByteFirst : Obligations.SerializedHighByteFirst := by
  unfold Obligations.SerializedHighByteFirst
  exact ⟨fun v => ⟨_, _, rfl, (extract_glue v 0 8 8).trans BitVec.extractLsb'_eq_self⟩, by decide⟩

/-! ### What a command sees -/

/-- `u` holds the engine of `s`, and in context k what `s` holds there. -/
structure SameView (k : CtxNum) (s u : State) : Prop where
  context : u.contexts[k.toNat]? = s.contexts[k.toNat]?
  engPoly : u.engPoly = s.engPoly
  engInit : u.engInit = s.engInit
  engXorout : u.engXorout = s.engXorout
  engCheck : u.engCheck = s.engCheck
  engRefin : u.engRefin = s.engRefin
  engRefout : u.engRefout = s.engRefout
  table : u.table = s.table
  built : u.built = s.built

theorem sameView_answer (k : CtxNum) (s : State) (r : Response) : SameView k s (s.answer r) :=
  ⟨rfl, rfl, rfl, rfl, rfl, rfl, rfl, rfl, rfl⟩

theorem SameView.refl (k : CtxNum) (s : State) : SameView k s s :=
  ⟨rfl, rfl, rfl, rfl, rfl, rfl, rfl, rfl, rfl⟩

theorem sameView_of_agreeOff (agree : AgreeOff m s u) (other : k.toNat ≠ m) : SameView k s u := by
  obtain ⟨rest, _, same⟩ := agree
  have context := same k.toNat other
  rw [rest]
  exact ⟨context, rfl, rfl, rfl, rfl, rfl, rfl, rfl, rfl⟩

/-- A command that names a context is not BUILD. -/
theorem ne_build_of_addresses (named : Addresses n i) : i ≠ .build := by
  rintro rfl
  exact named

/-- A command that names another context leaves context k and the engine. -/
theorem sameView_of_exec (h : exec i s = .next t) (named : Addresses n i) (other : n ≠ k) :
    SameView k s t := by
  have notBuild := ne_build_of_addresses named
  obtain ⟨poly, init, xorout, check, refin, refout, table, built⟩ :=
    engineWrittenOnlyByBuild i s t notBuild h
  refine ⟨?_, poly, init, xorout, check, refin, refout, table, built⟩
  refine exec_context_of_not_named h notBuild fun l named' same => other ?_
  rw [addresses_unique named named', BitVec.eq_of_toNat_eq same]

theorem SameView.upd (same : SameView k s u) (v : Word) (b : Byte) : u.upd v b = s.upd v b := by
  simp only [State.upd, same.engRefin, same.table]

theorem SameView.finish (same : SameView k s u) (v : Word) : u.finish v = s.finish v := by
  simp only [State.finish, same.engRefout, same.engXorout]

theorem SameView.crc (same : SameView k s u) (bs : List Byte) : u.crc bs = s.crc bs := by
  simp only [State.crc, State.updseq, same.finish, same.engInit, same.engRefin, same.table]

/-! ### How a command reacts to what it sees -/

/-- What a command does once its checks are decided: it fails, or it changes its context and answers. -/
inductive Reaction where
  | fail (e : ErrCode) (error : e ≠ .ok)
  | done (change : Context → Context) (r : Response)

/-- The reaction carried out on `u` by the command `i` on context k. -/
def react (k : CtxNum) (i : Instr) (x : Reaction) (u : State) : State :=
  match x with
  | .fail e _ => failed e (encode i) u
  | .done change r => { u with contexts := u.contexts.modify k.toNat change }.answer r

@[simp] theorem react_done_contexts (change : Context → Context) :
    (react k i (.done change r) s).contexts = s.contexts.modify k.toNat change := rfl

@[simp] theorem react_done_responses (change : Context → Context) :
    (react k i (.done change r) s).responses = s.responses ++ [r] := rfl

/-- `f`, a part of the meaning of `i`, reacts in one way to every state with the engine and the context k
of `s`. -/
def LocalTo (k : CtxNum) (s : State) (i : Instr) (f : State → Result) : Prop :=
  ∃ x, ∀ u, SameView k s u → f u = .next (react k i x u)

theorem LocalTo.congr {f g : State → Result} (loc : LocalTo k s i g)
    (agree : ∀ u, SameView k s u → f u = g u) : LocalTo k s i f := by
  obtain ⟨x, reacts⟩ := loc
  exact ⟨x, fun u same => (agree u same).trans (reacts u same)⟩

theorem localTo_raise (error : e ≠ .ok) : LocalTo k s i fun u => u.raise e (encode i) :=
  ⟨.fail e error, fun u _ => raise_eq u e (encode i)⟩

/-- An answer that is a function of the engine and context k changes no context. -/
theorem localTo_answer {f : State → Response} (sees : ∀ u, SameView k s u → f u = f s) :
    LocalTo k s i fun u => .next (u.answer (f u)) := by
  refine ⟨.done id (f s), fun u same => ?_⟩
  simp only [sees u same, react, List.modify_id]

/-- A write of context k with a value that is a function of the engine and context k. -/
theorem localTo_write {f : State → Context} (sees : ∀ u, SameView k s u → f u = f s) :
    LocalTo k s i fun u => .next ({ u with contexts := u.contexts.set k.toNat (f u) }.respond 0) := by
  refine ⟨.done (fun _ => f s) (okResp 0), fun u same => ?_⟩
  simp only [sees u same, react, List.set_eq_modify]
  rfl

theorem localTo_checkCtx {f : Context → State → Result} (next : ∀ c, LocalTo k s i (f c)) :
    LocalTo k s i fun u => u.checkCtx (encode i) k fun c => f c u := by
  cases held : s.contexts[k.toNat]? with
  | none =>
    have outside (u : State) (same : SameView k s u) : u.nctx ≤ k.toNat :=
      (context?_eq_none_iff u k).1 (same.context.trans held)
    exact (localTo_raise (by decide)).congr fun u same => checkCtx_of_none (outside u same)
  | some c => exact (next c).congr fun u same => checkCtx_of_some (same.context.trans held)

theorem localTo_checkBuilt {f : State → Result} (next : LocalTo k s i f) :
    LocalTo k s i fun u => u.checkBuilt (encode i) (f u) := by
  cases engine : s.built with
  | true => exact next.congr fun u same => checkBuilt_of_true (same.built.trans engine)
  | false =>
    exact (localTo_raise (by decide)).congr fun u same => checkBuilt_of_false (same.built.trans engine)

theorem localTo_checkValid {c : Context} {f : State → Result} (next : LocalTo k s i f) :
    LocalTo k s i fun u => u.checkValid (encode i) c (f u) := by
  cases valid : c.valid with
  | true => exact next.congr fun _ _ => checkValid_of_true valid
  | false => exact (localTo_raise (by decide)).congr fun _ _ => checkValid_of_false valid

/-- A command that names context k reacts to the engine and context k alone. -/
theorem exec_local (named : Addresses k i) (s : State) : LocalTo k s i (exec i) := by
  cases i with
  | init n =>
    cases named
    refine localTo_checkCtx fun _ => localTo_checkBuilt ?_
    exact localTo_write fun u same => by rw [same.engInit]
  | updb n b =>
    cases named
    refine localTo_checkCtx fun c => localTo_checkBuilt <| localTo_checkValid ?_
    exact localTo_write fun u same => by rw [same.upd]
  | fin n =>
    cases named
    refine localTo_checkCtx fun c => localTo_checkBuilt <| localTo_checkValid ?_
    exact localTo_answer fun u same => by rw [same.finish]
  | rdreg n =>
    cases named
    refine localTo_checkCtx fun c => localTo_checkValid ?_
    exact localTo_answer fun _ _ => rfl
  | wrreg n v =>
    cases named
    exact localTo_checkCtx fun _ => localTo_write fun _ _ => rfl
  | _ => exact named.elim

/-- A failure does not answer OK (60_exceptions.md R205). -/
theorem status_ne_ok_of_failed (error : e ≠ .ok) (answers : (failed e w s).responses = s.responses ++ [r]) :
    r.status ≠ .ok := by
  have same : errResp e = r := by simpa [failed] using answers
  rw [← same]
  exact error

/-- A reaction that answers OK is no failure. -/
theorem eq_done_of_react_ok {x : Reaction} (answers : (react k i x s).responses = s.responses ++ [r])
    (ok : r.status = .ok) : ∃ change, x = .done change r := by
  cases x with
  | fail e error => exact absurd ok (status_ne_ok_of_failed error answers)
  | done change q =>
    have same : q = r := by simpa using answers
    exact ⟨change, by rw [same]⟩

/-! ### The reading commands -/

theorem ne_ok_of_failsWith (fails : FailsWith s i e) : e ≠ .ok := by
  cases fails <;> simp

/-- A reading command that succeeds has only answered. -/
theorem eq_answer_of_readsOnly (reads : ReadsOnly i) (h : exec i s = .next t)
    (answers : t.responses = s.responses ++ [r]) (ok : r.status = .ok) : t = s.answer r := by
  cases effect_of_exec h with
  | read i q _ =>
    have same : q = r := by simpa using answers
    rw [same]
  | fail i e fails => exact absurd ok (status_ne_ok_of_failed (ne_ok_of_failsWith fails) answers)
  | _ => exact reads.elim

/-- An answer changes nothing of the view, so a command that only answered reacts with the same answer
again. -/
theorem answer_again_of_localTo (loc : LocalTo k s i (exec i)) (h : exec i s = .next (s.answer r))
    (ok : r.status = .ok) : exec i (s.answer r) = .next ((s.answer r).answer r) := by
  obtain ⟨x, reacts⟩ := loc
  have here : react k i x s = s.answer r := by simpa [reacts s (.refl k s)] using h
  obtain ⟨change, rfl⟩ := eq_done_of_react_ok (congrArg State.responses here) ok
  have unchanged : s.contexts.modify k.toNat change = s.contexts := congrArg State.contexts here
  rw [reacts _ (sameView_answer k s r)]
  simp only [react, answer_contexts, unchanged]
  rfl

theorem exec_rdcr_of_some {sel : Sel} {v : BitVec 32} (selected : s.selected sel = some v) :
    exec (.rdcr sel) s = .next (s.respond32 v) := by
  simp only [exec, execRdcr, selected]

theorem exec_rdcr_of_none {sel : Sel} (unselected : s.selected sel = none) :
    exec (.rdcr sel) s = s.raise .illegal (encode (.rdcr sel)) := by
  simp only [exec, execRdcr, unselected]

/-- RDCR reads registers beyond the engine and the contexts, but no response (42_access.md R176). -/
theorem answer_again_rdcr {sel : Sel} (h : exec (.rdcr sel) s = .next (s.answer r)) (ok : r.status = .ok) :
    exec (.rdcr sel) (s.answer r) = .next ((s.answer r).answer r) := by
  cases selected : s.selected sel with
  | none =>
    have raised : .next (failed .illegal (encode (.rdcr sel)) s) = Host.Outcome.next (s.answer r) :=
      (raise_eq s _ _).symm.trans ((exec_rdcr_of_none selected).symm.trans h)
    injection raised with failure
    exact absurd ok (status_ne_ok_of_failed (by decide) (congrArg State.responses failure))
  | some v =>
    have answered := (exec_rdcr_of_some selected).symm.trans h
    obtain rfl : okResp v = r := by simpa [State.respond32, State.answer, okResp] using answered
    exact exec_rdcr_of_some (s := s.answer (okResp v)) selected

/-- A reading command gives its answer again. TBLRD and SELFTEST read the engine alone, so any context's view
will do for them. -/
theorem answer_again_of_readsOnly (reads : ReadsOnly i) (h : exec i s = .next (s.answer r))
    (ok : r.status = .ok) : exec i (s.answer r) = .next ((s.answer r).answer r) := by
  cases i with
  | fin n =>
    have named : Addresses n (.fin n) := rfl
    exact answer_again_of_localTo (exec_local named s) h ok
  | rdreg n =>
    have named : Addresses n (.rdreg n) := rfl
    exact answer_again_of_localTo (exec_local named s) h ok
  | tblrd b =>
    refine answer_again_of_localTo (k := 0) (localTo_checkBuilt ?_) h ok
    exact localTo_answer fun u same => by rw [State.tableAt, same.table, State.tableAt]
  | selftest =>
    refine answer_again_of_localTo (k := 0) (localTo_checkBuilt ?_) h ok
    exact localTo_answer fun u same => by rw [same.crc, same.engCheck]
  | rdcr sel => exact answer_again_rdcr h ok
  | _ => exact reads.elim

/-- Settles O41: a successful read has only answered, and what it reads is no response. -/
theorem readsHaveNoSideEffect : Obligations.ReadsHaveNoSideEffect := by
  unfold Obligations.ReadsHaveNoSideEffect
  intro i s t r reads h answers ok
  obtain rfl := eq_answer_of_readsOnly reads h answers ok
  exact ⟨rfl, answer_again_of_readsOnly reads h ok⟩

/-! ### The independence of the contexts -/

/-- One reaction in both of two states that agree but on context m leaves them so, whatever context it is on. -/
theorem agreeOff_react (agree : AgreeOff m s t) (k : CtxNum) (i : Instr) (x : Reaction) :
    AgreeOff m (react k i x s) (react k i x t) := by
  obtain ⟨rest, length, others⟩ := agree
  generalize t.contexts = contexts at rest length others
  subst rest
  cases x with
  | fail e error => exact ⟨rfl, length, others⟩
  | done change r =>
    refine ⟨rfl, by simpa using length, fun l other => ?_⟩
    simp [List.getElem?_modify, others l other]

/-- Reactions on different contexts commute, up to the order of their responses. -/
theorem react_done_comm {a b : Instr} (other : n ≠ k) (f g : Context → Context) (s : State) :
    react k b (.done g q) (react n a (.done f r) s) =
      { react n a (.done f r) (react k b (.done g q) s) with responses := s.responses ++ [r, q] } := by
  have apart : n.toNat ≠ k.toNat := fun same => other (BitVec.eq_of_toNat_eq same)
  simp [react, State.answer, List.modify_modify_ne f g s.contexts apart]

/-- Settles O48: the reaction to one view is the same in both states of the first clause, and in both orders
of the second. -/
theorem contextsDoNotInterfere : Obligations.ContextsDoNotInterfere := by
  unfold Obligations.ContextsDoNotInterfere
  constructor
  · intro i k m s t named other agree
    obtain ⟨x, reacts⟩ := exec_local named s
    have hs := reacts s (.refl k s)
    have ht := reacts t (sameView_of_agreeOff agree other)
    have notBuild := ne_build_of_addresses named
    have notNamed (n : CtxNum) (named' : Addresses n i) : n.toNat ≠ m := addresses_unique named named' ▸ other
    obtain ⟨poly, init, xorout, check, refin, refout, table, built⟩ :=
      engineWrittenOnlyByBuild i s _ notBuild hs
    exact ⟨_, _, hs, ht, agreeOff_react agree k i x, exec_context_of_not_named hs notBuild notNamed,
      exec_context_of_not_named ht notBuild notNamed, table, poly, init, xorout, check, refin, refout, built⟩
  · intro a b j k s sa sab sb sba r q namedA namedB other ha answersA okA hb answersB okB hab hba
    obtain ⟨x, reactsA⟩ := exec_local namedA s
    obtain ⟨y, reactsB⟩ := exec_local namedB s
    have viewA : SameView k s sa := sameView_of_exec ha namedA other
    have viewB : SameView j s sb := sameView_of_exec hb namedB other.symm
    cases ha.symm.trans (reactsA s (.refl j s))
    cases hb.symm.trans (reactsB s (.refl k s))
    cases hab.symm.trans (reactsB _ viewA)
    cases hba.symm.trans (reactsA _ viewB)
    obtain ⟨f, rfl⟩ := eq_done_of_react_ok answersA okA
    obtain ⟨g, rfl⟩ := eq_done_of_react_ok answersB okB
    exact ⟨by rw [react_done_comm other], by rw [react_done_comm other], by rw [react_done_comm other.symm]⟩

end Sys2Proof.Proofs.MemoryRules

/-! The encoding rules (30_encoding.md): `decode` and `encode` are inverse to each other format by format
(R72 to R79, R85, R88), so a word decodes exactly if it is legal (R83); the response of every command (R80,
R81); and the assembler's pseudo-instructions, line by line and as runs of the block (R89 to R94). -/
namespace Sys2Proof.Proofs.EncodingRules
open Sys2Proof.Machine Sys2Proof.Safety Sys2Proof.Proofs.StateRules Sys2Proof.Proofs.MemoryRules

variable {s t : State} {i : Instr} {n : CtxNum} {c : Context} {e : ErrCode} {w : Command}
  {d : DecodeError} {op : BitVec 4} {low : BitVec 28} {rest : List HostAction} {r : Response}

/-! ### Decoding an encoded command, per format -/

theorem decodeI_formatI (op : BitVec 4) (v : Word) (f : Word → Instr) :
    decodeI (opWord op (0#12 ++ v)) f = .ok (f v) := by
  simp [decodeI, withReserved, imm16Field, reserved_of_formatI, imm16_of_opWord]

theorem decodeC_formatC (op : BitVec 4) (n : CtxNum) (f : CtxNum → Instr) :
    decodeC (opWord op (n ++ 0#24)) f = .ok (f n) := by
  simp [decodeC, withReserved, ctxField, reserved_of_formatC, ctx_of_formatC]

theorem decodeCB_formatCB (op : BitVec 4) (n : CtxNum) (b : Byte) (f : CtxNum → Byte → Instr) :
    decodeCB (opWord op (n ++ 0#16 ++ b)) f = .ok (f n b) := by
  simp [decodeCB, withReserved, ctxField, byteField, reserved_of_formatCB, ctx_of_formatCB, byte_of_formatCB]

theorem decodeCI_formatCI (op : BitVec 4) (n : CtxNum) (v : Word) (f : CtxNum → Word → Instr) :
    decodeCI (opWord op (n ++ 0#8 ++ v)) f = .ok (f n v) := by
  simp [decodeCI, withReserved, ctxField, imm16Field, reserved_of_formatCI, ctx_of_formatCI, imm16_of_formatCI]

theorem decodeX_formatX (op : BitVec 4) (b : Byte) (f : Byte → Instr) :
    decodeX (opWord op (0#20 ++ b)) f = .ok (f b) := by
  simp [decodeX, withReserved, byteField, reserved_of_formatX, idx_of_formatX]

theorem decodeS_formatS (op : BitVec 4) (sel : Sel) (f : Sel → Instr) (bound : sel.toNat ≤ 12) :
    decodeS (opWord op (0#24 ++ sel)) f = .ok (f sel) := by
  simp [decodeS, withReserved, selField, reserved_of_formatS, sel_of_formatS, bound, -BitVec.extractLsb'_toNat]

theorem decodeF_formatF (ri ro : Bool) (f : Bool → Bool → Instr) :
    decodeF (encode (.setref ri ro)) f = .ok (f ri ro) := by
  obtain ⟨riRead, roRead, reserved⟩ := flags_of_formatF ri ro
  simp only [decodeF, withReserved, riField, roField, riRead, roRead, reserved]
  rfl

/-- Settles O2: OP selects the command's own format, and the format reads back every field. -/
theorem decodeInvertsEncode : Obligations.DecodeInvertsEncode := by
  unfold Obligations.DecodeInvertsEncode
  intro i wellFormed
  unfold decode
  rw [opField_encode]
  cases i with
  | setpoly v | setinit v | setxor v | setchk v => exact decodeI_formatI _ v _
  | setref ri ro => exact decodeF_formatF ri ro _
  | build | selftest => decide
  | init n | fin n | rdreg n => exact decodeC_formatC _ n _
  | updb n b => exact decodeCB_formatCB _ n b _
  | wrreg n v => exact decodeCI_formatCI _ n v _
  | tblrd b => exact decodeX_formatX _ b _
  | rdcr sel => exact decodeS_formatS _ sel _ (of_decide_eq_true wellFormed)

/-! ### Encoding a decoded command, per format -/

/-- A word whose reserved bits are checked and accepted has none of them set. -/
theorem withReserved_eq_ok {m : Nat} {bits : BitVec m} {j : Instr} (h : withReserved (bits == 0) j = .ok i) :
    bits = 0#m ∧ j = i := by
  unfold withReserved at h
  split at h
  · next zero =>
    cases h
    exact ⟨beq_iff_eq.1 zero, rfl⟩
  · cases h

theorem opField_eq_ofNat {number : Nat} (h : (opField w).toNat = number) :
    opField w = BitVec.ofNat 4 number := by
  rw [← h, BitVec.ofNat_toNat, BitVec.setWidth_eq]

/-- A word is put together again from its opcode and what its lower 28 bits are. -/
theorem opWord_eq_of_fields (opcode : opField w = op) (lower : w.extractLsb' 0 28 = low) :
    opWord op low = w := by
  rw [← opcode, ← lower, opWord_fields]

/-- A one-bit slice is its bit. -/
theorem ofBool_getLsbD (w : Command) (m : Nat) : BitVec.ofBool (w.getLsbD m) = w.extractLsb' m 1 := by
  apply BitVec.eq_of_getLsbD_eq
  intro l bound
  obtain rfl : l = 0 := by omega
  simp

theorem encode_of_decodeI {f : Word → Instr} (opcode : opField w = op)
    (format : ∀ v, encode (f v) = opWord op (0#12 ++ v)) (h : decodeI w f = .ok i) : encode i = w := by
  obtain ⟨reserved, rfl⟩ := withReserved_eq_ok h
  rw [format, ← reserved]
  exact opWord_eq_of_fields opcode (extract_glue w 0 16 12).symm

theorem encode_of_decodeN (opcode : opField w = op) {j : Instr} (format : encode j = opWord op 0)
    (h : decodeN w j = .ok i) : encode i = w := by
  obtain ⟨reserved, rfl⟩ := withReserved_eq_ok h
  rw [format]
  exact opWord_eq_of_fields opcode reserved

theorem encode_of_decodeC {f : CtxNum → Instr} (opcode : opField w = op)
    (format : ∀ n, encode (f n) = opWord op (n ++ 0#24)) (h : decodeC w f = .ok i) : encode i = w := by
  obtain ⟨reserved, rfl⟩ := withReserved_eq_ok h
  rw [format, ← reserved]
  exact opWord_eq_of_fields opcode (extract_glue w 0 24 4).symm

theorem encode_of_decodeCB {f : CtxNum → Byte → Instr} (opcode : opField w = op)
    (format : ∀ n b, encode (f n b) = opWord op (n ++ 0#16 ++ b)) (h : decodeCB w f = .ok i) :
    encode i = w := by
  obtain ⟨reserved, rfl⟩ := withReserved_eq_ok h
  rw [format, ← reserved, ctxField, extract_glue w 8 16 4]
  exact opWord_eq_of_fields opcode (extract_glue w 0 8 20).symm

theorem encode_of_decodeCI {f : CtxNum → Word → Instr} (opcode : opField w = op)
    (format : ∀ n v, encode (f n v) = opWord op (n ++ 0#8 ++ v)) (h : decodeCI w f = .ok i) :
    encode i = w := by
  obtain ⟨reserved, rfl⟩ := withReserved_eq_ok h
  rw [format, ← reserved, ctxField, extract_glue w 16 8 4]
  exact opWord_eq_of_fields opcode (extract_glue w 0 16 12).symm

theorem encode_of_decodeX {f : Byte → Instr} (opcode : opField w = op)
    (format : ∀ b, encode (f b) = opWord op (0#20 ++ b)) (h : decodeX w f = .ok i) : encode i = w := by
  obtain ⟨reserved, rfl⟩ := withReserved_eq_ok h
  rw [format, ← reserved]
  exact opWord_eq_of_fields opcode (extract_glue w 0 8 20).symm

theorem encode_of_decodeF {f : Bool → Bool → Instr} (opcode : opField w = op)
    (format : ∀ ri ro, encode (f ri ro) = opWord op (0#26 ++ BitVec.ofBool ro ++ BitVec.ofBool ri))
    (h : decodeF w f = .ok i) : encode i = w := by
  obtain ⟨reserved, rfl⟩ := withReserved_eq_ok h
  rw [format, ← reserved, roField, riField, ofBool_getLsbD, ofBool_getLsbD,
    extract_glue w 1 1 26]
  exact opWord_eq_of_fields opcode (extract_glue w 0 1 27).symm

theorem encode_of_decodeS {f : Sel → Instr} (opcode : opField w = op)
    (format : ∀ sel, encode (f sel) = opWord op (0#24 ++ sel)) (h : decodeS w f = .ok i) : encode i = w := by
  unfold decodeS at h
  split at h
  · obtain ⟨reserved, rfl⟩ := withReserved_eq_ok h
    rw [format, ← reserved]
    exact opWord_eq_of_fields opcode (extract_glue w 0 4 24).symm
  · cases h

/-- A word that decodes is the encoding of its command: its reserved bits are 0 and its other bits are OP and
the operands (30_encoding.md R85). -/
theorem encode_of_decode (h : decode w = .ok i) : encode i = w := by
  unfold decode at h
  split at h <;> rename_i number
  case h_15 => cases h
  all_goals have opcode := opField_eq_ofNat number
  case h_1 | h_2 | h_3 | h_4 => exact encode_of_decodeI opcode (fun _ => rfl) h
  case h_5 => exact encode_of_decodeF opcode (fun _ _ => rfl) h
  case h_6 | h_13 => exact encode_of_decodeN opcode rfl h
  case h_7 | h_9 | h_10 => exact encode_of_decodeC opcode (fun _ => rfl) h
  case h_8 => exact encode_of_decodeCB opcode (fun _ _ => rfl) h
  case h_11 => exact encode_of_decodeCI opcode (fun _ _ => rfl) h
  case h_12 => exact encode_of_decodeX opcode (fun _ => rfl) h
  case h_14 => exact encode_of_decodeS opcode (fun _ => rfl) h

/-! ### Legal words -/

theorem decode_encode (wellFormed : i.WellFormed) : decode (encode i) = .ok i :=
  decodeInvertsEncode i wellFormed

/-- Each format accepts a word by its own clause of 30_encoding.md R83. -/
theorem legal_of_decode (h : decode w = .ok i) : legal w = true := by
  unfold decode at h
  unfold legal
  split at h <;> rename_i number <;> simp only [number]
  case h_14 => -- RDCR, the one format that checks a field beside its reserved bits
    unfold decodeS at h
    split at h
    · next bound =>
      exact Bool.and_eq_true_iff.2 ⟨beq_iff_eq.2 (withReserved_eq_ok h).1, decide_eq_true bound⟩
    · cases h
  case h_15 => cases h
  all_goals exact beq_iff_eq.2 (withReserved_eq_ok h).1

theorem wellFormed_of_decode (h : decode w = .ok i) : i.WellFormed := by
  have legality := legal_of_decode h
  rwa [← encode_of_decode h, legal_encode] at legality

/-- Settles O3: the word by its format, well-formedness by its legality. -/
theorem encodeInvertsDecode : Obligations.EncodeInvertsDecode := by
  unfold Obligations.EncodeInvertsDecode
  exact fun w i h => ⟨encode_of_decode h, wellFormed_of_decode h⟩

/-! ### The formulas of R88 -/

/-- OP at bits 31..28 with the other fields below it. -/
theorem opWord_eq_or (op : BitVec 4) (low : BitVec 28) :
    opWord op low = op.setWidth 32 <<< 28 ||| low.setWidth 32 :=
  (BitVec.setWidth_eq _).symm.trans BitVec.setWidth_append_eq_shiftLeft_setWidth_or

/-- An operand below reserved bits is the operand zero-extended. -/
theorem setWidth_zero_append {a b m : Nat} (v : BitVec b) : (0#a ++ v).setWidth m = v.setWidth m := by
  rw [BitVec.setWidth_append_eq_shiftLeft_setWidth_or, BitVec.setWidth_zero, BitVec.zero_shiftLeft,
    BitVec.zero_or]

/-- Formats I, X and S: reserved bits, then one operand (30_encoding.md R73, R78, R79). -/
theorem opWord_eq_or_of_operand {b : Nat} {v : BitVec b} (op : BitVec 4)
    (operand : low.setWidth 32 = v.setWidth 32) : opWord op low = op.setWidth 32 <<< 28 ||| v.setWidth 32 := by
  rw [opWord_eq_or, operand]

/-- Format C (30_encoding.md R75). -/
theorem formatC_eq_or (op : BitVec 4) (n : CtxNum) :
    opWord op (n ++ 0#24) = op.setWidth 32 <<< 28 ||| n.setWidth 32 <<< 24 := by
  rw [opWord_eq_or, BitVec.setWidth_append_eq_shiftLeft_setWidth_or, BitVec.setWidth_zero, BitVec.or_zero]

/-- Format CB (30_encoding.md R76). -/
theorem formatCB_eq_or (op : BitVec 4) (n : CtxNum) (b : Byte) :
    opWord op (n ++ 0#16 ++ b) = op.setWidth 32 <<< 28 ||| n.setWidth 32 <<< 24 ||| b.setWidth 32 := by
  simp only [opWord_eq_or, BitVec.setWidth_append_eq_shiftLeft_setWidth_or, BitVec.setWidth_zero,
    BitVec.or_zero, BitVec.or_assoc, ← BitVec.shiftLeft_add]

/-- Format CI (30_encoding.md R77). -/
theorem formatCI_eq_or (op : BitVec 4) (n : CtxNum) (v : Word) :
    opWord op (n ++ 0#8 ++ v) = op.setWidth 32 <<< 28 ||| n.setWidth 32 <<< 24 ||| v.setWidth 32 := by
  simp only [opWord_eq_or, BitVec.setWidth_append_eq_shiftLeft_setWidth_or, BitVec.setWidth_zero,
    BitVec.or_zero, BitVec.or_assoc, ← BitVec.shiftLeft_add]

/-- Format F (30_encoding.md R74). -/
theorem formatF_eq_or (op : BitVec 4) (ri ro : Bool) :
    opWord op (0#26 ++ BitVec.ofBool ro ++ BitVec.ofBool ri) =
      op.setWidth 32 <<< 28 ||| (BitVec.ofBool ro).setWidth 32 <<< 1 ||| (BitVec.ofBool ri).setWidth 32 := by
  simp only [opWord_eq_or, BitVec.setWidth_append_eq_shiftLeft_setWidth_or, BitVec.setWidth_zero,
    BitVec.or_assoc, BitVec.zero_shiftLeft, BitVec.zero_or]

/-- Settles O4: each command by its format's formula, under its own opcode. -/
theorem encodingsAreTheWrittenFormulas : Obligations.EncodingsAreTheWrittenFormulas := by
  unfold Obligations.EncodingsAreTheWrittenFormulas
  refine ⟨fun v => ?_, fun v => ?_, fun v => ?_, fun v => ?_, formatF_eq_or 0x5, rfl, formatC_eq_or 0x7,
    formatCB_eq_or 0x8, formatC_eq_or 0x9, formatC_eq_or 0xA, formatCI_eq_or 0xB, fun b => ?_, rfl,
    fun sel => ?_, rfl⟩
  · exact opWord_eq_or_of_operand 0x1 (setWidth_zero_append v)
  · exact opWord_eq_or_of_operand 0x2 (setWidth_zero_append v)
  · exact opWord_eq_or_of_operand 0x3 (setWidth_zero_append v)
  · exact opWord_eq_or_of_operand 0x4 (setWidth_zero_append v)
  · exact opWord_eq_or_of_operand 0xC (setWidth_zero_append b)
  · exact opWord_eq_or_of_operand 0xE (setWidth_zero_append sel)

/-! ### Words that do not decode -/

/-- A step on a word that does not decode fails with ILLEGAL (60_exceptions.md R201). -/
theorem step_of_decode_error (first : s.port = .command w :: rest) (undecoded : decode w = .error d) :
    step s = .next (failed .illegal w { s with port := rest }) := by
  simp only [step, State.take, first, undecoded, State.rejectWord, raise_eq]
  rfl

theorem exists_decode_iff_legal (w : Command) : (∃ i, decode w = .ok i) ↔ legal w = true := by
  constructor
  · rintro ⟨i, decoded⟩
    exact legal_of_decode decoded
  · intro legality
    cases decoded : decode w with
    | ok i => exact ⟨i, rfl⟩
    | error d => simp [legal_eq_false_of_decode_error decoded] at legality

/-- Every format has a reserved bit, so no opcode admits 28 ones below it (30_encoding.md R72 to R79). -/
theorem legal_opWord_ones (op : BitVec 4) : legal (opWord op 0xFFFFFFF) = false := by
  revert op
  decide

/-- Settles O5: `decode` and `legal` accept the same words, and the others fail in the step. -/
theorem illegalWordsFailIllegal : Obligations.IllegalWordsFailIllegal := by
  unfold Obligations.IllegalWordsFailIllegal
  refine ⟨exists_decode_iff_legal, fun s w rest first notLegal => ?_,
    fun op => ⟨opWord op 0xFFFFFFF, opField_opWord op _, legal_opWord_ones op⟩⟩
  cases decoded : decode w with
  | ok i => simp [legal_of_decode decoded] at notLegal
  | error d => exact step_of_decode_error first decoded

theorem decode_of_reserved_op (reserved : opField w = 0x0 ∨ opField w = 0xF) :
    decode w = .error .reservedOp := by
  unfold decode
  obtain op | op := reserved <;> rw [op] <;> rfl

/-- Settles O6: the all-zero and the all-ones word have a reserved opcode. -/
theorem reservedOpcodesNeverExecute : Obligations.ReservedOpcodesNeverExecute := by
  unfold Obligations.ReservedOpcodesNeverExecute
  intro s w rest first reserved
  have reservedOp : opField w = 0x0 ∨ opField w = 0xF := by
    obtain zero | ones | rfl | rfl := reserved
    · exact .inl zero
    · exact .inr ones
    · exact .inl (by decide)
    · exact .inr (by decide)
  have undecoded := decode_of_reserved_op reservedOp
  exact ⟨undecoded, step_of_decode_error first undecoded⟩

/-- Settles O1, by evaluating the decoder on each word. -/
theorem writtenOutWordsDecode : Obligations.WrittenOutWordsDecode := by
  unfold Obligations.WrittenOutWordsDecode
  decide

/-! ### Runs of encoded commands -/

theorem step_of_decode (first : s.port = .command w :: rest) (decoded : decode w = .ok i) :
    step s = exec i { s with port := rest } := by
  simp only [step, State.take, first, decoded]

/-- A run whose first word is that of a command which answers the next state `t`. -/
theorem runSteps_of_exec {k : Nat} (first : s.port = .command (encode i) :: rest) (wellFormed : i.WellFormed)
    (answers : exec i { s with port := rest } = .next t) : runSteps (k + 1) s = runSteps k t :=
  runSteps_succ_of_step ((step_of_decode first (decode_encode wellFormed)).trans answers)

/-- Settles O24: each of the six commands answers OK and leaves the next state its rule writes. -/
theorem configBuildsItsEngine : Obligations.ConfigBuildsItsEngine := by
  unfold Obligations.ConfigBuildsItsEngine
  refine ⟨fun _ _ _ _ _ _ => rfl, fun s poly init ri ro xorout check rest commands => ?_⟩
  have run :=
    calc runSteps 6 s
      _ = runSteps 5 _ := runSteps_of_exec (i := .setpoly poly) commands rfl rfl
      _ = runSteps 4 _ := runSteps_of_exec (i := .setinit init) rfl rfl rfl
      _ = runSteps 3 _ := runSteps_of_exec (i := .setref ri ro) rfl rfl rfl
      _ = runSteps 2 _ := runSteps_of_exec (i := .setxor xorout) rfl rfl rfl
      _ = runSteps 1 _ := runSteps_of_exec (i := .setchk check) rfl rfl rfl
      _ = runSteps 0 _ := runSteps_of_exec (i := .build) rfl rfl rfl
  refine ⟨_, run, rfl, rfl, rfl, rfl, rfl, rfl, rfl, lookup_buildTable poly, rfl, rfl, ?_⟩
  simp [List.replicate, okResp]

/-! ### A checksum -/

theorem exec_init_of_built (inside : n.toNat < s.nctx) (engine : s.built = true) :
    exec (.init n) s = .next ((s.writeContext n s.engInit).respond 0) :=
  (checkCtx_of_some (List.getElem?_eq_getElem inside)).trans (checkBuilt_of_true engine)

theorem exec_updb_of_valid (held : s.contexts[n.toNat]? = some c) (engine : s.built = true)
    (valid : c.valid = true) (b : Byte) :
    exec (.updb n b) s = .next ((s.advanceContext n c (s.upd c.value b)).respond 0) :=
  (checkCtx_of_some held).trans ((checkBuilt_of_true engine).trans (checkValid_of_true valid))

theorem exec_fin_of_valid (held : s.contexts[n.toNat]? = some c) (engine : s.built = true)
    (valid : c.valid = true) : exec (.fin n) s = .next (s.respond (s.finish c.value)) :=
  (checkCtx_of_some held).trans ((checkBuilt_of_true engine).trans (checkValid_of_true valid))

/-- The state after `k` commands answered OK 0, which have left `v` in context n. -/
def computed (s : State) (n : CtxNum) (v : Word) (rest : List HostAction) (k : Nat) : State :=
  { s with
    port := rest
    contexts := s.contexts.set n.toNat { value := v, valid := true }
    responses := s.responses ++ List.replicate k (okResp 0) }

theorem computed_zero {v : Word} (held : s.contexts[n.toNat]? = some ⟨v, true⟩) (port : s.port = rest) :
    computed s n v rest 0 = s := by
  subst port
  obtain ⟨inside, value⟩ := List.getElem?_eq_some_iff.1 held
  simp [computed, ← value]

/-- Two such runs in a row. -/
theorem computed_computed (s : State) (n : CtxNum) (v v' : Word) (rest' : List HostAction) (k l : Nat) :
    computed (computed s n v rest' k) n v' rest l = computed s n v' rest (k + l) := by
  simp [computed]

theorem context_computed (inside : n.toNat < s.nctx) (v : Word) (k : Nat) :
    (computed s n v rest k).contexts[n.toNat]? = some ⟨v, true⟩ :=
  List.getElem?_set_self inside

/-- The host actions that present commands in order, before the others. -/
def presenting (commands : List Instr) (rest : List HostAction) : List HostAction :=
  (commands.map fun i => .command (encode i)) ++ rest

/-- One UPDB per byte leaves `updseq` of the bytes in the context (41_crc_datapath.md R138). -/
theorem runSteps_upds (bytes : List Byte) {v : Word} (engine : s.built = true)
    (held : s.contexts[n.toNat]? = some ⟨v, true⟩)
    (commands : s.port = presenting (updsExpansion n bytes) rest) :
    runSteps bytes.length s = .next (computed s n (s.updseq v bytes) rest bytes.length) := by
  induction bytes generalizing s v with
  | nil => exact congrArg _ (computed_zero held commands).symm
  | cons b bytes ih =>
    have fed := exec_updb_of_valid (s := { s with port := presenting (updsExpansion n bytes) rest }) held
      engine rfl b
    calc runSteps (bytes.length + 1) s
      _ = runSteps bytes.length (computed s n (s.upd v b) (presenting (updsExpansion n bytes) rest) 1) :=
        runSteps_of_exec commands rfl fed
      _ = _ := ih engine (context_computed (lt_nctx_of_held held) _ _) rfl
      _ = _ := by rw [computed_computed, Nat.add_comm]; rfl

/-- Settles O34: INIT leaves ENG_INIT, the UPDBs `updseq` of it, and FIN answers it finished. -/
theorem checksumAnswersCrc : Obligations.ChecksumAnswersCrc := by
  unfold Obligations.ChecksumAnswersCrc
  intro bytes n s rest engine inside commands
  refine ⟨rfl, ?_, rfl, fun _ => rfl, fun _ _ _ => rfl⟩
  have first : s.port =
      presenting (.init n :: updsExpansion n bytes) (presenting [.fin n] rest) := by
    simpa [presenting, checksumExpansion] using commands
  have updates :=
    runSteps_upds (s := computed s n s.engInit (presenting (updsExpansion n bytes) (presenting [.fin n] rest)) 1)
      bytes engine (context_computed inside _ _) rfl
  rw [computed_computed] at updates
  have finished :=
    exec_fin_of_valid (s := computed s n (s.updseq s.engInit bytes) rest (1 + bytes.length))
      (context_computed inside _ _) engine rfl
  calc runSteps (bytes.length + 2) s
    _ = runSteps (bytes.length + 1) _ := runSteps_of_exec first rfl (exec_init_of_built inside engine)
    _ = runSteps 1 _ := runSteps_add_of_run updates
    _ = runSteps 0 _ := runSteps_of_exec rfl rfl finished
    _ = _ := by rw [runSteps_zero, Nat.add_comm]; rfl

/-! ### The assembler -/

/-- Settles O58: the expansions as R92 to R94 write them, and four lines by evaluation. -/
theorem pseudoInstructionsExpand : Obligations.PseudoInstructionsExpand := by
  unfold Obligations.PseudoInstructionsExpand
  refine ⟨fun _ => rfl, fun _ => rfl, fun _ _ => rfl, fun _ _ => rfl, ?_⟩
  decide

/-- Settles O59, by evaluating the assembler on each line. -/
theorem linesAssembleToTheirWords : Obligations.LinesAssembleToTheirWords := by
  unfold Obligations.LinesAssembleToTheirWords
  decide

/-! ### The registers RDCR selects -/

/-- A concatenation as a number. -/
theorem toNat_append_eq_add {a b : Nat} (x : BitVec a) (y : BitVec b) :
    (x ++ y).toNat = x.toNat * 2 ^ b + y.toNat := by
  rw [BitVec.toNat_append, ← Nat.shiftLeft_add_eq_or_of_lt y.isLt, Nat.shiftLeft_eq]

theorem validSum_succ (s : State) (m : Nat) :
    validSum s (m + 1) = 2 ^ m * (validAt s m).toNat + validSum s m := by
  rw [validSum, Nat.add_comm]
  cases validAt s m <;> simp

theorem validSum_lt (s : State) (m : Nat) : validSum s m < 2 ^ m := by
  induction m with
  | zero => exact Nat.one_pos
  | succ m ih =>
    unfold validSum
    split <;> omega

theorem testBit_validSum (s : State) (m k : Nat) :
    (validSum s m).testBit k = (decide (k < m) && validAt s k) := by
  induction m with
  | zero => simp [validSum]
  | succ m ih =>
    rw [validSum_succ, Nat.testBit_two_pow_mul_add _ (validSum_lt s m)]
    split
    · next below => simp [ih, below, Nat.lt_succ_of_lt below]
    · next above =>
      by_cases top : k = m
      · subst top
        cases validAt s k <;> simp
      · simp [Nat.testBit_bool_toNat, show k - m ≠ 0 by omega, show ¬k < m + 1 by omega]

/-- VALIDBITS as a number (10_state.md R32). -/
theorem toNat_validBits (s : State) : s.validBits.toNat = validSum s 16 := by
  apply Nat.eq_of_testBit_eq
  intro k
  rw [testBit_validSum, BitVec.testBit_toNat]
  by_cases bound : k < 16
  · rw [validBits_getLsbD bound, decide_eq_true bound, Bool.true_and]
  · simp [bound, BitVec.getLsbD_of_ge _ _ (Nat.le_of_not_lt bound)]

theorem toNat_bits (e : ErrCode) : e.bits.toNat = codeNumber e := by
  cases e <;> rfl

theorem statusWord_eq_specStatus (s : State) : s.statusWord = BitVec.ofNat 32 (specStatus s) := by
  have number : s.statusWord.toNat = specStatus s := by
    simp only [State.statusWord, toNat_append_eq_add, toNat_validBits, toNat_bits, specStatus,
      BitVec.toNat_ofBool]
    cases s.built <;> simp <;> omega
  rw [← number, BitVec.ofNat_toNat, BitVec.setWidth_eq]

theorem refWord_eq_specRef (refin refout : Bool) :
    (refWord refin refout).setWidth 32 = BitVec.ofNat 32 (specRef refin refout) := by
  revert refin refout
  decide

/-- The selected register holds the value 42_access.md R176 names. -/
theorem specSelected_of_selected {sel : Sel} {v : BitVec 32} (h : s.selected sel = some v) :
    specSelected s sel.toNat = v := by
  unfold State.selected at h
  split at h <;> rename_i number <;> cases h <;> rw [number]
  case h_1 => exact (statusWord_eq_specStatus s).symm
  case h_6 | h_11 => exact (refWord_eq_specRef _ _).symm
  all_goals rfl

/-! ### The response of a command -/

/-- The response of a command that succeeds (30_encoding.md R80, R81). -/
def resultOf (s : State) : Instr → Response
  | .fin n => okResp ((s.finish (valueAt s n.toNat)).setWidth 32)
  | .rdreg n => okResp ((valueAt s n.toNat).setWidth 32)
  | .tblrd b => okResp ((s.tableAt b).setWidth 32)
  | .selftest =>
    { status := .ok
      matchBit := matchFlag (s.crc checkMessage) s.engCheck
      data := (s.crc checkMessage).setWidth 32 }
  | .rdcr sel => okResp (specSelected s sel.toNat)
  | _ => okResp 0

/-- The command is answered once, with its result or with an error. -/
def Replies (s : State) (i : Instr) (x : Result) : Prop :=
  ∃ t r, x = .next t ∧ t.port = s.port ∧ t.responses = s.responses ++ [r] ∧
    (r = resultOf s i ∨ ∃ e, e ≠ .ok ∧ r = errResp e)

theorem replies_raise (error : e ≠ .ok) : Replies s i (s.raise e w) :=
  ⟨_, _, raise_eq s e w, rfl, rfl, .inr ⟨e, error, rfl⟩⟩

theorem replies_answer (port : t.port = s.port) (earlier : t.responses = s.responses)
    (result : r = resultOf s i) : Replies s i (.next (t.answer r)) :=
  ⟨_, r, rfl, port, congrArg (· ++ [r]) earlier, .inl result⟩

theorem replies_checkCtx {f : Context → Result}
    (next : ∀ c, s.contexts[n.toNat]? = some c → Replies s i (f c)) : Replies s i (s.checkCtx w n f) := by
  obtain ⟨_, raised⟩ | ⟨c, held, passed⟩ := checkCtx_cases s w n f
  · rw [raised]
    exact replies_raise (by decide)
  · rw [passed]
    exact next c held

theorem replies_checkBuilt {x : Result} (next : Replies s i x) : Replies s i (s.checkBuilt w x) := by
  cases engine : s.built with
  | true => rwa [checkBuilt_of_true engine]
  | false =>
    rw [checkBuilt_of_false engine]
    exact replies_raise (by decide)

theorem replies_checkValid {x : Result} (next : Replies s i x) : Replies s i (s.checkValid w c x) := by
  cases valid : c.valid with
  | true => rwa [checkValid_of_true valid]
  | false =>
    rw [checkValid_of_false valid]
    exact replies_raise (by decide)

theorem valueAt_of_held {m : Nat} (held : s.contexts[m]? = some c) : valueAt s m = c.value := by
  simp [valueAt, held]

/-- Every command is answered once, and if it does not fail then with its result. -/
theorem exec_replies (i : Instr) (s : State) : Replies s i (exec i s) := by
  cases i with
  | setpoly v | setinit v | setxor v | setchk v | setref ri ro | build => exact replies_answer rfl rfl rfl
  | init n => exact replies_checkCtx fun _ _ => replies_checkBuilt <| replies_answer rfl rfl rfl
  | updb n b =>
    exact replies_checkCtx fun _ _ => replies_checkBuilt <| replies_checkValid <| replies_answer rfl rfl rfl
  | fin n =>
    refine replies_checkCtx fun c held => replies_checkBuilt <| replies_checkValid <| replies_answer rfl rfl ?_
    rw [resultOf, valueAt_of_held held]
    rfl
  | rdreg n =>
    refine replies_checkCtx fun c held => replies_checkValid <| replies_answer rfl rfl ?_
    rw [resultOf, valueAt_of_held held]
    rfl
  | wrreg n v => exact replies_checkCtx fun _ _ => replies_answer rfl rfl rfl
  | tblrd b | selftest => exact replies_checkBuilt <| replies_answer rfl rfl rfl
  | rdcr sel =>
    cases selected : s.selected sel with
    | none =>
      rw [exec_rdcr_of_none selected]
      exact replies_raise (by decide)
    | some v =>
      rw [exec_rdcr_of_some selected]
      refine replies_answer rfl rfl ?_
      rw [resultOf, specSelected_of_selected selected]
      rfl

theorem eq_selftest_of_opcode (opcode : opcodeOf i = 0xD) : i = .selftest := by
  cases i with
  | selftest => rfl
  | _ => simp [opcodeOf] at opcode

/-- SELFTEST has one word (30_encoding.md R72). -/
theorem encode_eq_selftest_iff : encode i = 0xD0000000 ↔ i = .selftest := by
  constructor
  · intro word
    refine eq_selftest_of_opcode ?_
    rw [← opField_encode, word]
    decide
  · rintro rfl
    rfl

/-- A 16-bit result has its upper 16 bits 0 (30_encoding.md R81). -/
theorem upper_setWidth (v : Word) : (v.setWidth 32).extractLsb' 16 16 = 0 :=
  (congrArg _ (BitVec.setWidth_eq_append (by decide))).trans (extract_high 0#16 v)

/-- Zero extension loses nothing. -/
theorem setWidth_inj {v v' : Word} : v.setWidth 32 = v'.setWidth 32 ↔ v = v' := by
  refine ⟨fun same => ?_, congrArg _⟩
  have lower := congrArg (BitVec.setWidth 16) same
  simpa using lower

/-- The fields of the response `r` that the word `w` gets in the state `s` (30_encoding.md R80, R81). -/
structure RightFields (s : State) (w : Command) (r : Response) : Prop where
  matchBit : r.matchBit = true ↔ w = 0xD0000000 ∧ r.status = .ok ∧ r.data = s.engCheck.setWidth 32
  failed : r.status ≠ .ok → r.data = 0
  noResult : opField w ∈ ([0x1, 0x2, 0x3, 0x4, 0x5, 0x6, 0x7, 0x8, 0xB] : List (BitVec 4)) → r.data = 0
  result16 : opField w ∈ ([0x9, 0xA, 0xC, 0xD] : List (BitVec 4)) → r.data.extractLsb' 16 16 = 0
  selected : opField w = 0xE → r.status = .ok → r.data = specSelected s (selField w).toNat

theorem rightFields_errResp (error : e ≠ .ok) : RightFields s w (errResp e) where
  matchBit := by simp [errResp, error]
  failed _ := rfl
  noResult _ := rfl
  result16 _ := by simp [errResp]
  selected _ ok := absurd ok error

theorem status_resultOf (s : State) (i : Instr) : (resultOf s i).status = .ok := by
  cases i <;> rfl

/-- MATCH compares SELFTEST's own result with ENG_CHECK. -/
theorem matchBit_resultOf (s : State) (i : Instr) :
    (resultOf s i).matchBit = true ↔ i = .selftest ∧ (resultOf s i).data = s.engCheck.setWidth 32 := by
  cases i with
  | selftest =>
    simp [resultOf, matchFlag, setWidth_inj]
  | _ => simp [resultOf, okResp]

theorem rightFields_resultOf (s : State) (i : Instr) : RightFields s (encode i) (resultOf s i) where
  matchBit := by rw [matchBit_resultOf, encode_eq_selftest_iff, eq_true (status_resultOf s i), true_and]
  failed error := absurd (status_resultOf s i) error
  noResult op := by
    rw [opField_encode] at op
    cases i with
    | fin | rdreg | tblrd | selftest | rdcr => simp [opcodeOf] at op
    | _ => rfl
  result16 op := by
    rw [opField_encode] at op
    cases i with
    | fin | rdreg | tblrd | selftest => exact upper_setWidth _
    | _ => simp [opcodeOf] at op
  selected op _ := by
    rw [opField_encode] at op
    cases i with
    | rdcr sel => rw [selField, encode, sel_of_formatS]; rfl
    | _ => simp [opcodeOf] at op

/-- A presented word is answered once, and rightly: a word that decodes is its command's encoding and gets the
command's reply, any other gets ILLEGAL. -/
theorem step_rightFields (first : s.port = .command w :: rest) :
    ∃ t r, step s = .next t ∧ t.port = rest ∧ t.responses = s.responses ++ [r] ∧
      RightFields { s with port := rest } w r := by
  cases decoded : decode w with
  | error d =>
    exact ⟨_, _, step_of_decode_error first decoded, rfl, rfl, rightFields_errResp (by decide)⟩
  | ok i =>
    obtain ⟨t, r, ran, port, responses, reply⟩ := exec_replies i { s with port := rest }
    refine ⟨t, r, (step_of_decode first decoded).trans ran, port, responses, ?_⟩
    obtain rfl | ⟨e, error, rfl⟩ := reply
    · rw [← encode_of_decode decoded]
      exact rightFields_resultOf { s with port := rest } i
    · exact rightFields_errResp error

/-- Settles O16, by the fields of the response; the port is none of what they are about. -/
theorem oneResponsePerCommand : Obligations.OneResponsePerCommand := by
  unfold Obligations.OneResponsePerCommand
  intro s w rest first
  obtain ⟨t, r, ran, port, responses, fields⟩ := step_rightFields first
  exact ⟨t, r, ran, port, responses, fields.matchBit, fields.failed, fields.noResult, fields.result16,
    fields.selected⟩

end Sys2Proof.Proofs.EncodingRules

/-! The configuration rules (40_configuration.md): the SET commands write their staging registers (R100 to
R105), BUILD latches the engine and ends every computation (R111 to R114), and the table is XOR-linear in its
index for every polynomial (R115 to R118). -/
namespace Sys2Proof.Proofs.ConfigurationRules
open Sys2Proof.Machine Sys2Proof.Safety Sys2Proof.Proofs.StateRules Sys2Proof.Proofs.EncodingRules

variable {s t : State} {i : Instr} {n : CtxNum} {c : Context} {w : Command} {m : Nat} {bits : BitVec m}
  {rest : List HostAction}

/-! ### The step on a word of one opcode -/

theorem decode_setpoly (opcode : opField w = 0x1) : decode w = decodeI w .setpoly := by
  rw [decode, opcode]; rfl

theorem decode_setinit (opcode : opField w = 0x2) : decode w = decodeI w .setinit := by
  rw [decode, opcode]; rfl

theorem decode_setxor (opcode : opField w = 0x3) : decode w = decodeI w .setxor := by
  rw [decode, opcode]; rfl

theorem decode_setchk (opcode : opField w = 0x4) : decode w = decodeI w .setchk := by
  rw [decode, opcode]; rfl

theorem decode_setref (opcode : opField w = 0x5) : decode w = decodeF w .setref := by
  rw [decode, opcode]; rfl

theorem decode_build (opcode : opField w = 0x6) : decode w = decodeN w .build := by
  rw [decode, opcode]; rfl

/-- A word whose reserved bits are checked executes its command or is ILLEGAL (30_encoding.md R85). -/
theorem step_of_withReserved (first : s.port = .command w :: rest)
    (decoded : decode w = withReserved (bits == 0) i) :
    step s =
      if bits = 0#m then exec i { s with port := rest }
      else .next (failed .illegal w { s with port := rest }) := by
  split
  · next zero => exact step_of_decode first (by simp [decoded, zero, withReserved])
  · next set => exact step_of_decode_error first (decoded.trans (by simp [set, withReserved]; rfl))

/-- The same for a command that does not fail. -/
theorem step_of_withReserved_next (first : s.port = .command w :: rest)
    (decoded : decode w = withReserved (bits == 0) i) (answers : exec i { s with port := rest } = .next t) :
    step s = .next (if bits = 0#m then t else failed .illegal w { s with port := rest }) := by
  rw [step_of_withReserved first decoded, answers]
  exact (apply_ite _ _ _ _).symm

/-! ### The SET commands -/

/-- Settles O17: format I checks cmd[27:16] and hands IMM16 on. -/
theorem setpolyWritesStagingPolynomial : Obligations.SetpolyWritesStagingPolynomial := by
  unfold Obligations.SetpolyWritesStagingPolynomial
  refine ⟨fun _ _ => rfl, fun s w rest first opcode => ?_, by decide⟩
  exact step_of_withReserved_next first (decode_setpoly opcode) rfl

/-- Settles O18: BUILD latches CFG_INIT, and INIT loads ENG_INIT without reading a reflect flag. -/
theorem setinitWritesStagingInitialValue : Obligations.SetinitWritesStagingInitialValue := by
  unfold Obligations.SetinitWritesStagingInitialValue
  refine ⟨fun _ _ => rfl, fun s w rest first opcode => ?_, by decide, fun v n s t u inside set build => ?_⟩
  · exact step_of_withReserved_next first (decode_setinit opcode) rfl
  · have inside' : n.toNat < u.nctx := by rwa [exec_nctx build, exec_nctx set]
    cases set
    cases build
    exact ⟨_, exec_init_of_built inside' rfl, List.getElem?_set_self inside'⟩

/-- Settles O19, as O17 for its own opcode. -/
theorem setxorWritesStagingOutputMask : Obligations.SetxorWritesStagingOutputMask := by
  unfold Obligations.SetxorWritesStagingOutputMask
  refine ⟨fun _ _ => rfl, fun s w rest first opcode => ?_, by decide⟩
  exact step_of_withReserved_next first (decode_setxor opcode) rfl

/-- Settles O21: format F checks cmd[27:2] and hands both flags on. -/
theorem setrefWritesStagingReflectFlags : Obligations.SetrefWritesStagingReflectFlags := by
  unfold Obligations.SetrefWritesStagingReflectFlags
  refine ⟨fun _ _ _ => rfl, fun s w rest first opcode => ?_, by decide⟩
  exact step_of_withReserved_next first (decode_setref opcode) rfl

/-- Settles O45: each SET command answers a next state that differs in its staging registers alone. -/
theorem stagingWritesChangeNoEngineState : Obligations.StagingWritesChangeNoEngineState := by
  unfold Obligations.StagingWritesChangeNoEngineState
  intro i s t set h
  obtain ⟨v, rfl⟩ | ⟨v, rfl⟩ | ⟨v, rfl⟩ | ⟨v, rfl⟩ | ⟨ri, ro, rfl⟩ := set <;> cases h <;>
    exact ⟨rfl, rfl, rfl, rfl, rfl, rfl, rfl, rfl, rfl⟩

/-! ### The check value -/

/-- `s` with other check registers. -/
def withChecks (s : State) (cfg eng : Word) : State := { s with cfgCheck := cfg, engCheck := eng }

/-- The response that `f`, a part of the meaning of `i`, adds does not depend on the check registers, but for
SELFTEST's MATCH bit. -/
def CheckBlind (i : Instr) (f : State → Result) : Prop :=
  ∀ (s : State) (cfg eng : Word), ∃ (t t' : State) (r r' : Response),
    f s = .next t ∧ f (withChecks s cfg eng) = .next t' ∧
    t.responses = s.responses ++ [r] ∧ t'.responses = s.responses ++ [r'] ∧
    r'.status = r.status ∧ r'.data = r.data ∧ (i ≠ .selftest → r' = r)

/-- A response that is a function of the state, and one that reads no check register. -/
theorem checkBlind_of_response {f : State → Result} (response : State → Response)
    (answers : ∀ s, ∃ t, f s = .next t ∧ t.responses = s.responses ++ [response s])
    (blind : ∀ s cfg eng, response (withChecks s cfg eng) = response s) : CheckBlind i f := by
  intro s cfg eng
  obtain ⟨t, ht, log⟩ := answers s
  obtain ⟨t', ht', log'⟩ := answers (withChecks s cfg eng)
  rw [blind] at log'
  exact ⟨t, t', _, _, ht, ht', log, log', rfl, rfl, fun _ => rfl⟩

theorem checkBlind_raise (e : ErrCode) (w : Command) : CheckBlind i fun s => s.raise e w :=
  checkBlind_of_response (fun _ => errResp e) (fun s => ⟨_, raise_eq s e w, rfl⟩) fun _ _ _ => rfl

theorem checkBlind_checkCtx {f : Context → State → Result} (next : ∀ c, CheckBlind i (f c)) :
    CheckBlind i fun s => s.checkCtx w n fun c => f c s := by
  intro s cfg eng
  cases held : s.contexts[n.toNat]? with
  | none =>
    have outside : s.nctx ≤ n.toNat := (context?_eq_none_iff s n).1 held
    simpa only [checkCtx_of_none outside, checkCtx_of_none (s := withChecks s cfg eng) outside] using
      checkBlind_raise .badctx w s cfg eng
  | some c =>
    simpa only [checkCtx_of_some held, checkCtx_of_some (s := withChecks s cfg eng) held] using
      next c s cfg eng

theorem checkBlind_checkBuilt {f : State → Result} (next : CheckBlind i f) :
    CheckBlind i fun s => s.checkBuilt w (f s) := by
  intro s cfg eng
  cases engine : s.built with
  | true =>
    simpa only [checkBuilt_of_true engine, checkBuilt_of_true (s := withChecks s cfg eng) engine] using
      next s cfg eng
  | false =>
    simpa only [checkBuilt_of_false engine, checkBuilt_of_false (s := withChecks s cfg eng) engine] using
      checkBlind_raise .notbuilt w s cfg eng

theorem checkBlind_checkValid {f : State → Result} (next : CheckBlind i f) :
    CheckBlind i fun s => s.checkValid w c (f s) := by
  cases valid : c.valid with
  | true => simpa only [checkValid_of_true valid] using next
  | false => simpa only [checkValid_of_false valid] using checkBlind_raise .uninit w

/-- A command that answers `v` without reading it from the state. -/
theorem checkBlind_okResp {f : State → Result} (v : BitVec 32)
    (answers : ∀ s, ∃ t, f s = .next t ∧ t.responses = s.responses ++ [okResp v]) : CheckBlind i f :=
  checkBlind_of_response (fun _ => okResp v) answers fun _ _ _ => rfl

/-- Only SELFTEST compares with ENG_CHECK, and only RDCR reads a check register out. -/
theorem checkBlind_exec (notRdcr : ∀ sel, i ≠ .rdcr sel) : CheckBlind i (exec i) := by
  cases i with
  | setpoly v | setinit v | setxor v | setchk v | setref ri ro | build =>
    exact checkBlind_okResp 0 fun _ => ⟨_, rfl, rfl⟩
  | init n =>
    refine checkBlind_checkCtx fun c => checkBlind_checkBuilt ?_
    exact checkBlind_okResp 0 fun _ => ⟨_, rfl, rfl⟩
  | updb n b =>
    refine checkBlind_checkCtx fun c => checkBlind_checkBuilt <| checkBlind_checkValid ?_
    exact checkBlind_okResp 0 fun _ => ⟨_, rfl, rfl⟩
  | fin n =>
    refine checkBlind_checkCtx fun c => checkBlind_checkBuilt <| checkBlind_checkValid ?_
    exact checkBlind_of_response (fun s => okResp ((s.finish c.value).setWidth 32)) (fun _ => ⟨_, rfl, rfl⟩)
      fun _ _ _ => rfl
  | rdreg n =>
    refine checkBlind_checkCtx fun c => checkBlind_checkValid ?_
    exact checkBlind_okResp (c.value.setWidth 32) fun _ => ⟨_, rfl, rfl⟩
  | wrreg n v =>
    refine checkBlind_checkCtx fun c => ?_
    exact checkBlind_okResp 0 fun _ => ⟨_, rfl, rfl⟩
  | tblrd b =>
    refine checkBlind_checkBuilt ?_
    exact checkBlind_of_response (fun s => okResp ((s.tableAt b).setWidth 32)) (fun _ => ⟨_, rfl, rfl⟩)
      fun _ _ _ => rfl
  | selftest =>
    refine checkBlind_checkBuilt fun s cfg eng => ?_
    exact ⟨_, _, _, _, rfl, rfl, rfl, rfl, rfl, rfl, fun other => absurd rfl other⟩
  | rdcr sel => exact absurd rfl (notRdcr sel)

/-- Settles O20: the last clause is `CheckBlind` of the whole command. -/
theorem setchkWritesStagingCheckValue : Obligations.SetchkWritesStagingCheckValue := by
  unfold Obligations.SetchkWritesStagingCheckValue
  refine ⟨fun _ _ => rfl, fun s w rest first opcode => ?_, by decide,
    fun i s cfg eng notRdcr => checkBlind_exec notRdcr s cfg eng⟩
  exact step_of_withReserved_next first (decode_setchk opcode) rfl

/-! ### BUILD -/

/-- Settles O22: the table is `buildTable` of CFG_POLY, whose entries are the eight iterations of R110. -/
theorem buildConstructsTheEngine : Obligations.BuildConstructsTheEngine := by
  unfold Obligations.BuildConstructsTheEngine
  refine ⟨fun s => ⟨buildTable s.cfgPoly, lookup_buildTable s.cfgPoly, rfl⟩,
    fun s w rest first opcode => step_of_withReserved first (decode_build opcode), by decide,
    fun s t poly build => ?_⟩
  cases build
  have table : (s.latchEngine.invalidateAll.respond 0).table = buildTable 0x1021 := congrArg buildTable poly
  rw [table, lookup_buildTable, lookup_buildTable]
  exact ⟨by decide, by decide, rfl⟩

theorem exec_updb_of_not_valid (held : s.contexts[n.toNat]? = some c) (engine : s.built = true)
    (empty : c.valid = false) (b : Byte) :
    exec (.updb n b) s = .next (failed .uninit (encode (.updb n b)) s) :=
  (checkCtx_of_some held).trans
    ((checkBuilt_of_true engine).trans ((checkValid_of_false empty).trans (raise_eq s _ _)))

theorem exec_fin_of_not_valid (held : s.contexts[n.toNat]? = some c) (engine : s.built = true)
    (empty : c.valid = false) : exec (.fin n) s = .next (failed .uninit (encode (.fin n)) s) :=
  (checkCtx_of_some held).trans
    ((checkBuilt_of_true engine).trans ((checkValid_of_false empty).trans (raise_eq s _ _)))

theorem exec_rdreg_of_not_valid (held : s.contexts[n.toNat]? = some c) (empty : c.valid = false) :
    exec (.rdreg n) s = .next (failed .uninit (encode (.rdreg n)) s) :=
  (checkCtx_of_some held).trans ((checkValid_of_false empty).trans (raise_eq s _ _))

theorem exec_wrreg_of_lt (inside : n.toNat < s.nctx) (v : Word) :
    exec (.wrreg n v) s = .next ((s.writeContext n v).respond 0) :=
  checkCtx_of_some (List.getElem?_eq_getElem inside)

/-- BUILD empties every context: its C is kept and its VALID cleared (40_configuration.md R112). -/
theorem exists_empty_of_build (build : exec .build s = .next t) (inside : n.toNat < s.nctx) :
    ∃ c, t.contexts[n.toNat]? = some c ∧ c.valid = false := by
  cases build
  refine ⟨{ s.contexts[n.toNat] with valid := false }, ?_, rfl⟩
  simp [List.getElem?_eq_getElem inside]

/-- Settles O23: an empty context refuses to be read until WRREG fills it; the engine is BUILD's. -/
theorem buildEndsEveryComputation : Obligations.BuildEndsEveryComputation := by
  unfold Obligations.BuildEndsEveryComputation
  intro s t n b v build inside
  obtain ⟨c, held, empty⟩ := exists_empty_of_build build inside
  have inside' : n.toNat < t.nctx := lt_nctx_of_held held
  have engine : t.built = true := (exec_built_iff build).2 (.inl rfl)
  have restored : ((t.writeContext n v).respond 0).contexts[n.toNat]? = some ⟨v, true⟩ :=
    List.getElem?_set_self inside'
  refine ⟨?_, exec_updb_of_not_valid held engine empty b, exec_fin_of_not_valid held engine empty,
    exec_rdreg_of_not_valid held empty, _, _, _, exec_wrreg_of_lt inside' v,
    exec_updb_of_valid restored engine rfl b, ?_, exec_fin_of_valid restored engine rfl, rfl⟩
  · cases build
    exact validAt_invalidateAll s.latchEngine
  · exact List.getElem?_set_self (lt_nctx_of_held restored)

/-! ### The table of a polynomial -/

/-- One iteration shifts, and feeds the polynomial back if bit 15 is set (40_configuration.md R110). -/
theorem shiftStep_eq_xor (p v : Word) : shiftStep p v = v <<< 1 ^^^ if v.getLsbD 15 then p else 0 := by
  cases msb : v.getLsbD 15 with
  | true => exact shiftStep_of_msb msb
  | false => exact (shiftStep_of_not_msb msb).trans BitVec.xor_zero.symm

/-- One iteration is XOR-linear, as the shift and the feedback are (40_configuration.md R118 (a)). -/
theorem shiftStep_xor (p v v' : Word) : shiftStep p (v ^^^ v') = shiftStep p v ^^^ shiftStep p v' := by
  have feedback : (if (v ^^^ v').getLsbD 15 then p else 0) =
      (if v.getLsbD 15 then p else 0) ^^^ if v'.getLsbD 15 then p else 0 := by
    rw [BitVec.getLsbD_xor]
    cases v.getLsbD 15 <;> cases v'.getLsbD 15 <;> simp
  simp only [shiftStep_eq_xor, feedback, BitVec.shiftLeft_xor_distrib]
  ac_rfl

/-- The law of 40_configuration.md R118 (a), of any function of a table index. -/
def XorLinear (f : Byte → Word) : Prop := ∀ a b, f (a ^^^ b) = f a ^^^ f b

theorem xorLinear_tableEntry (p : Word) : XorLinear (tableEntry p) := by
  intro a b
  unfold tableEntry
  rw [BitVec.setWidth_xor, BitVec.shiftLeft_xor_distrib]
  exact Function.Semiconj₂.iterate (shiftStep_xor p) 8 _ _

/-- The working value starts at 0 and stays there (40_configuration.md R116). -/
theorem tableEntry_zero (p : Word) : tableEntry p 0 = 0 :=
  Function.iterate_fixed (shiftStep_of_not_msb (by decide)) 8

/-- Seven iterations reach 0x8000, and the eighth shifts it out and leaves the polynomial
(40_configuration.md R118 (b)). -/
theorem tableEntry_one (p : Word) : tableEntry p 1 = p := by
  have seven : (shiftStep p)^[7] 0x0100#16 = 0x8000#16 := by simp [shiftStep]
  calc tableEntry p 1
    _ = shiftStep p ((shiftStep p)^[7] 0x0100#16) := Function.iterate_succ_apply' _ 7 _
    _ = 0x8000#16 <<< 1 ^^^ p := by rw [seven, shiftStep_of_msb (by decide)]
    _ = p := BitVec.zero_xor

theorem XorLinear.map_zero {f : Byte → Word} (linear : XorLinear f) : f 0 = 0 := by
  simpa using linear 0 0

/-- XOR-linear functions that agree on the powers of two agree on every index below 2 ^ l: the top bit of an
index is one of the powers, and what is left of the index is below the next smaller power. -/
theorem XorLinear.eq_of_bits_below {f g : Byte → Word} (hf : XorLinear f) (hg : XorLinear g)
    (powers : ∀ k, k < 8 → f (1#8 <<< k) = g (1#8 <<< k)) {l : Nat} (bound : l ≤ 8) {b : Byte}
    (clear : ∀ k, l ≤ k → b.getLsbD k = false) : f b = g b := by
  induction l generalizing b with
  | zero =>
    obtain rfl : b = 0 := BitVec.eq_of_getLsbD_eq fun k _ => by simp [clear k]
    rw [hf.map_zero, hg.map_zero]
  | succ l ih =>
    cases top : b.getLsbD l with
    | false =>
      refine ih (by omega) fun k large => ?_
      obtain rfl | above := Nat.eq_or_lt_of_le large
      · exact top
      · exact clear k above
    | true =>
      have lower : f (b ^^^ 1#8 <<< l) = g (b ^^^ 1#8 <<< l) := by
        refine ih (by omega) fun k large => ?_
        obtain rfl | above := Nat.eq_or_lt_of_le large
        · simp [top]; omega
        · simp [clear k above]; omega
      have split : b = b ^^^ 1#8 <<< l ^^^ 1#8 <<< l := by
        rw [BitVec.xor_assoc, BitVec.xor_self, BitVec.xor_zero]
      rw [split, hf, hg, lower, powers l (by omega)]

/-- The eight powers of two determine an XOR-linear function (40_configuration.md R118 (c)). -/
theorem XorLinear.eq_of_powers {f g : Byte → Word} (hf : XorLinear f) (hg : XorLinear g)
    (powers : ∀ k, k < 8 → f (1#8 <<< k) = g (1#8 <<< k)) (b : Byte) : f b = g b :=
  hf.eq_of_bits_below hg powers le_rfl fun k large => BitVec.getLsbD_of_ge b k large

theorem table_ext {u v : Vector Word 256} (entries : ∀ b, lookup u b = lookup v b) : u = v := by
  refine Vector.ext fun k bound => ?_
  simpa [lookup, Nat.mod_eq_of_lt bound] using entries (BitVec.ofNat 8 k)

theorem xorLinear_lookup_buildTable (p : Word) : XorLinear (lookup (buildTable p)) := by
  intro a b
  simp only [lookup_buildTable]
  exact xorLinear_tableEntry p a b

/-- Settles O54: two tables are equal entry by entry, and XOR-linear entries by their powers of two. -/
theorem tableLaws : Obligations.TableLaws := by
  unfold Obligations.TableLaws
  exact ⟨xorLinear_lookup_buildTable, fun p => (lookup_buildTable p 1).trans (tableEntry_one p),
    fun p => (lookup_buildTable p 0).trans (tableEntry_zero p),
    fun p _ linear powers => table_ext (XorLinear.eq_of_powers linear (xorLinear_lookup_buildTable p) powers)⟩

/-- A table holds its polynomial, in entry 1. -/
theorem buildTable_injective : Function.Injective buildTable := by
  intro p q same
  have entry : lookup (buildTable p) 1 = lookup (buildTable q) 1 := by rw [same]
  simpa only [lookup_buildTable, tableEntry_one] using entry

/-- Settles O51: BUILD leaves `buildTable` of the polynomial it latches. -/
theorem samePolynomialSameTable : Obligations.SamePolynomialSameTable := by
  unfold Obligations.SamePolynomialSameTable
  intro s s' t t' build build'
  cases build
  cases build'
  exact ⟨congrArg buildTable, buildTable_injective.eq_iff.symm⟩

/-! ### The zero polynomial -/

theorem shiftStep_zero (w : Word) : shiftStep 0 w = w <<< 1 := by
  simp [shiftStep]

/-- Two shifts by one byte shift a register out. -/
theorem shiftLeft_byte_twice (v : Word) : v <<< 8 <<< 8 = 0 := by
  rw [← BitVec.shiftLeft_add]
  exact BitVec.shiftLeft_eq_zero le_rfl

theorem lookup_buildTable_zero (n : Byte) : lookup (buildTable 0) n = 0 := by
  have shifts (k : Nat) (v : Word) : (shiftStep 0)^[k] v = v <<< k := by
    induction k with
    | zero => simp
    | succ k ih => rw [Function.iterate_succ_apply', ih, shiftStep_zero, ← BitVec.shiftLeft_add]
  rw [lookup_buildTable, tableEntry, shifts, shiftLeft_byte_twice]

theorem upd_of_zero_table (table : s.table = buildTable 0) (r : Word) (b : Byte) : s.upd r b = r <<< 8 := by
  rw [State.upd, updByte, table, lookup_buildTable_zero]
  exact BitVec.xor_zero

/-- Settles O55: both updates only shift, and BUILD answers OK whatever the polynomial. -/
theorem zeroPolynomialIsDegenerate : Obligations.ZeroPolynomialIsDegenerate := by
  unfold Obligations.ZeroPolynomialIsDegenerate
  refine ⟨lookup_buildTable_zero, fun s r b b' table => ⟨upd_of_zero_table table r b, ?_⟩,
    fun s => ⟨_, rfl, rfl⟩⟩
  calc s.updseq r [b, b']
    _ = s.upd (s.upd r b) b' := rfl
    _ = r <<< 8 <<< 8 := by simp only [upd_of_zero_table table]
    _ = 0 := shiftLeft_byte_twice r

end Sys2Proof.Proofs.ConfigurationRules

/-! The datapath rules (41_crc_datapath.md): the reflections (R130 to R132), the update and its bitwise form
(R135, R149), the commands INIT, UPDB, FIN and SELFTEST (R133, R136, R141, R146) with their worked examples
(R137, R148), and that no command sees the host's side of the state (R145). -/
namespace Sys2Proof.Proofs.DatapathRules
open Sys2Proof.Machine Sys2Proof.Safety Sys2Proof.Proofs.StateRules Sys2Proof.Proofs.MemoryRules
open Sys2Proof.Proofs.EncodingRules Sys2Proof.Proofs.ConfigurationRules

variable {s : State} {n : CtxNum} {c : Context} {w : Command} {p v : Word} {refin : Bool}

/-! ### The reflections -/

theorem getLsbD_reverse_of_lt {l k : Nat} (v : BitVec l) (bound : k < l) :
    v.reverse.getLsbD k = v.getLsbD (l - 1 - k) := by
  rw [BitVec.getLsbD_reverse, BitVec.getMsbD_eq_getLsbD, decide_eq_true bound, Bool.true_and]

theorem reverse_xor {l : Nat} (v v' : BitVec l) : (v ^^^ v').reverse = v.reverse ^^^ v'.reverse := by
  apply BitVec.eq_of_getLsbD_eq
  intro k bound
  simp only [BitVec.getLsbD_xor, getLsbD_reverse_of_lt _ bound]

/-- Settles O52: both reflections are the library's reversal, at 8 and 16 bits. -/
theorem reflectionReversesBits : Obligations.ReflectionReversesBits := by
  unfold Obligations.ReflectionReversesBits
  exact ⟨fun b _ bound => getLsbD_reverse_of_lt b (Nat.lt_succ_of_le bound),
    fun v _ bound => getLsbD_reverse_of_lt v (Nat.lt_succ_of_le bound), by decide, by decide⟩

/-- Settles O53: the laws hold of reversal at every width. -/
theorem reflectionLaws : Obligations.ReflectionLaws := by
  unfold Obligations.ReflectionLaws
  exact ⟨fun _ => BitVec.reverse_reverse_eq, fun _ => BitVec.reverse_reverse_eq, reverse_xor, reverse_xor,
    fun _ _ => BitVec.reverse_append⟩

/-! ### The table-driven and the bitwise update -/

/-- The table index of an update is the register's high byte XOR the input byte. -/
theorem index_eq_high_xor (r : Word) (d : Byte) :
    (r >>> 8 ^^^ d.setWidth 16).extractLsb' 0 8 = (r >>> 8).setWidth 8 ^^^ d := by
  apply BitVec.eq_of_getLsbD_eq
  intro k bound
  simp [bound, show k < 16 by omega]

/-- The register with the input byte XORed in is the table index in the high byte over the low byte. -/
theorem xor_input_eq_index_xor_low (r : Word) (d : Byte) :
    r ^^^ d.setWidth 16 <<< 8 =
      ((r >>> 8).setWidth 8 ^^^ d).setWidth 16 <<< 8 ^^^ (r.setWidth 8).setWidth 16 := by
  apply BitVec.eq_of_getLsbD_eq
  intro k bound
  by_cases low : k < 8
  · simp [low, bound]
  · simp [low, bound, show k - 8 < 8 by omega, show k - 8 < 16 by omega, show 8 + (k - 8) = k by omega]

/-- Iterations that find bit 15 clear only shift. -/
theorem iterate_shiftStep_of_clear (p : Word) {k : Nat} {v : Word}
    (clear : ∀ j, 16 - k ≤ j → v.getLsbD j = false) (bound : k ≤ 16) : (shiftStep p)^[k] v = v <<< k := by
  induction k generalizing v with
  | zero => simp
  | succ k ih =>
    have msb : v.getLsbD 15 = false := clear 15 (by omega)
    have clear' (j : Nat) (large : 16 - k ≤ j) : (v <<< 1).getLsbD j = false := by
      simp [clear (j - 1) (by omega)]
    rw [Function.iterate_succ_apply, shiftStep_of_not_msb msb, ih clear' (by omega), ← BitVec.shiftLeft_add,
      Nat.add_comm]

/-- Eight iterations shift a low byte up. -/
theorem iterate_shiftStep_low (p : Word) (b : Byte) :
    (shiftStep p)^[8] (b.setWidth 16) = b.setWidth 16 <<< 8 := by
  refine iterate_shiftStep_of_clear p (fun j large => ?_) (by decide)
  simp [show 8 ≤ j from large]

/-- The high byte is shifted out. -/
theorem shiftLeft_low (r : Word) : (r.setWidth 8).setWidth 16 <<< 8 = r <<< 8 := by
  apply BitVec.eq_of_getLsbD_eq
  intro k bound
  by_cases low : k < 8
  · simp [low]
  · simp [low, show k - 8 < 8 by omega, show k - 8 < 16 by omega]

/-- Settles O56: the eight iterations are XOR-linear, take the high byte to its table entry and shift the low
byte up. -/
theorem tableAndBitwiseFormsAgree : Obligations.TableAndBitwiseFormsAgree := by
  unfold Obligations.TableAndBitwiseFormsAgree
  intro p r d
  rw [index_eq_high_xor, lookup_buildTable]
  generalize index : (r >>> 8).setWidth 8 ^^^ d = n
  symm
  calc (shiftStep p)^[8] (r ^^^ d.setWidth 16 <<< 8)
    _ = (shiftStep p)^[8] (n.setWidth 16 <<< 8 ^^^ (r.setWidth 8).setWidth 16) := by
      rw [xor_input_eq_index_xor_low, index]
    _ = tableEntry p n ^^^ (shiftStep p)^[8] ((r.setWidth 8).setWidth 16) :=
      Function.Semiconj₂.iterate (shiftStep_xor p) 8 _ _
    _ = tableEntry p n ^^^ r <<< 8 := by rw [iterate_shiftStep_low, shiftLeft_low]
    _ = r <<< 8 ^^^ tableEntry p n := BitVec.xor_comm _ _

/-- The byte an update feeds in (41_crc_datapath.md R135). -/
def inputByte (refin : Bool) (b : Byte) : Byte := if refin then reflect8 b else b

/-- The update under a built table is the bitwise one. -/
theorem updByte_buildTable (refin : Bool) (p r : Word) (b : Byte) :
    updByte refin (buildTable p) r b = updBitwise p r (inputByte refin b) :=
  tableAndBitwiseFormsAgree p r (inputByte refin b)

theorem updBytes_buildTable (refin : Bool) (p r : Word) (bs : List Byte) :
    updBytes refin (buildTable p) r bs = bs.foldl (fun v b => updBitwise p v (inputByte refin b)) r := by
  induction bs generalizing r with
  | nil => rfl
  | cons b bs ih => rw [updBytes_cons, updByte_buildTable, ih, List.foldl_cons]

theorem crc_eq_bitwise (table : s.table = buildTable p) (bs : List Byte) :
    s.crc bs = s.finish (bs.foldl (fun v b => updBitwise p v (inputByte s.engRefin b)) s.engInit) := by
  rw [State.crc, State.updseq, table, updBytes_buildTable]

/-- Settles O30: the bitwise form, evaluated on the check message. -/
theorem referenceCheckValues : Obligations.ReferenceCheckValues := by
  unfold Obligations.ReferenceCheckValues
  constructor
  · intro s table init refin refout xorout
    rw [crc_eq_bitwise table, State.finish, init, refin, refout, xorout]
    decide +kernel
  · intro s table init refin refout xorout
    rw [crc_eq_bitwise table, State.finish, init, refin, refout, xorout]
    decide +kernel

/-! ### Sequences of bytes -/

/-- Settles O32, by induction on the first sequence. -/
theorem chunkingInvariance : Obligations.ChunkingInvariance := by
  unfold Obligations.ChunkingInvariance
  intro s r u v
  induction u generalizing r with
  | nil => rfl
  | cons b u ih => exact ih (s.upd r b)

/-- Settles O33, as the run of the commands UPDS expands to. -/
theorem updbSequenceAppliesUpdseq : Obligations.UpdbSequenceAppliesUpdseq := by
  unfold Obligations.UpdbSequenceAppliesUpdseq
  exact fun bytes _ _ _ _ engine held commands => runSteps_upds bytes engine held commands

/-! ### A built engine -/

/-- The table of a built engine is that of ENG_POLY (10_state.md R29). -/
theorem table_eq_buildTable (inv : Inv s) (engine : s.built = true) (poly : s.engPoly = p) :
    s.table = buildTable p := by
  obtain ⟨_, agrees, _⟩ := inv
  rw [EngineAgrees, if_pos engine, poly] at agrees
  exact table_ext fun b => (agrees b).trans (lookup_buildTable p b).symm

theorem lookup_eq_tableEntry (inv : Inv s) (engine : s.built = true) (poly : s.engPoly = p) (b : Byte) :
    lookup s.table b = tableEntry p b := by
  rw [table_eq_buildTable inv engine poly, lookup_buildTable]

theorem upd_eq_updBitwise (inv : Inv s) (engine : s.built = true) (poly : s.engPoly = p) (r : Word)
    (b : Byte) : s.upd r b = updBitwise p r (inputByte s.engRefin b) := by
  rw [State.upd, table_eq_buildTable inv engine poly, updByte_buildTable]

/-- Byte 0 keeps a zero register (41_crc_datapath.md R136): it is its own reflection, and the iterations are
those of entry 0. -/
theorem upd_zero (inv : Inv s) (engine : s.built = true) : s.upd 0 0 = 0 := by
  have zeroByte : inputByte s.engRefin 0 = 0 := by cases s.engRefin <;> decide
  rw [upd_eq_updBitwise inv engine rfl, zeroByte]
  exact tableEntry_zero s.engPoly

/-- A successful UPDB leaves the register of the bitwise form in its context. -/
theorem exec_updb_context (inv : Inv s) (engine : s.built = true) (poly : s.engPoly = p)
    (reflects : s.engRefin = refin) (held : s.contexts[n.toNat]? = some ⟨v, true⟩) (b : Byte) :
    ∃ t, exec (.updb n b) s = .next t ∧
      t.contexts[n.toNat]? = some ⟨updBitwise p v (inputByte refin b), true⟩ := by
  rw [← reflects, ← upd_eq_updBitwise inv engine poly]
  exact ⟨_, exec_updb_of_valid held engine rfl b, List.getElem?_set_self (lt_nctx_of_held held)⟩

/-! ### The commands of the datapath -/

theorem decode_init (opcode : opField w = 0x7) : decode w = decodeC w .init := by
  rw [decode, opcode]; rfl

theorem decode_updb (opcode : opField w = 0x8) : decode w = decodeCB w .updb := by
  rw [decode, opcode]; rfl

theorem decode_fin (opcode : opField w = 0x9) : decode w = decodeC w .fin := by
  rw [decode, opcode]; rfl

theorem decode_selftest (opcode : opField w = 0xD) : decode w = decodeN w .selftest := by
  rw [decode, opcode]; rfl

theorem checkCtx_eq_failed {f : Context → Result} (outside : s.nctx ≤ n.toNat) :
    s.checkCtx w n f = .next (failed .badctx w s) :=
  (checkCtx_of_none outside).trans (raise_eq s _ w)

theorem checkBuilt_eq_failed {x : Result} (noEngine : s.built = false) :
    s.checkBuilt w x = .next (failed .notbuilt w s) :=
  (checkBuilt_of_false noEngine).trans (raise_eq s _ w)

/-- The engine check comes second, after that of a context in range (60_exceptions.md R207). -/
theorem checkCtx_checkBuilt_eq_failed {f : Context → Result} (inside : n.toNat < s.nctx)
    (noEngine : s.built = false) :
    (s.checkCtx w n fun c => s.checkBuilt w (f c)) = .next (failed .notbuilt w s) :=
  (checkCtx_of_some (List.getElem?_eq_getElem inside)).trans (checkBuilt_eq_failed noEngine)

/-- Settles O25: the two checks in order, then the write of ENG_INIT. -/
theorem initStartsAComputation : Obligations.InitStartsAComputation := by
  unfold Obligations.InitStartsAComputation
  exact ⟨fun _ _ outside => checkCtx_eq_failed outside,
    fun _ _ inside noEngine => checkCtx_checkBuilt_eq_failed inside noEngine,
    fun _ _ inside engine => exec_init_of_built inside engine,
    fun _ _ _ first opcode => step_of_withReserved first (decode_init opcode), by decide⟩

/-- Settles O26: the three checks in order, then the update of R135; the example runs the bitwise form. -/
theorem updbFeedsOneByte : Obligations.UpdbFeedsOneByte := by
  unfold Obligations.UpdbFeedsOneByte
  refine ⟨fun _ _ _ outside => checkCtx_eq_failed outside,
    fun _ _ _ inside noEngine => checkCtx_checkBuilt_eq_failed inside noEngine,
    fun _ b _ _ held engine empty => exec_updb_of_not_valid held engine empty b,
    fun n b s c held engine valid => ?_,
    fun _ _ _ first opcode => step_of_withReserved first (decode_updb opcode), by decide,
    fun _ inv engine => upd_zero inv engine, by decide, by decide,
    fun s inv engine poly refin held => ?_⟩
  · obtain ⟨v, _⟩ := c
    subst valid
    exact exec_updb_of_valid held engine rfl b
  · have updated : updBitwise 0x1021 0x0000 (inputByte false 0x31) = 0x2672 := by decide
    refine ⟨(lookup_eq_tableEntry inv engine poly 0x31).trans (by decide), ?_⟩
    rw [← updated]
    exact exec_updb_context (n := 0) inv engine poly refin held 0x31

/-- Settles O27: the bitwise form, evaluated on the reflected byte. -/
theorem reflectedUpdateExample : Obligations.ReflectedUpdateExample := by
  unfold Obligations.ReflectedUpdateExample
  intro s inv engine poly refin held
  have updated : updBitwise 0x8005 0xFFFF (inputByte true 0x31) = 0x7E29 := by decide
  refine ⟨by decide, (lookup_eq_tableEntry inv engine poly 0x73).trans (by decide), ?_⟩
  rw [← updated]
  exact exec_updb_context (n := 0) inv engine poly refin held 0x31

/-- Settles O28: the three checks in order, then an answer. -/
theorem finAnswersTheChecksum : Obligations.FinAnswersTheChecksum := by
  unfold Obligations.FinAnswersTheChecksum
  exact ⟨fun _ _ outside => checkCtx_eq_failed outside,
    fun _ _ inside noEngine => checkCtx_checkBuilt_eq_failed inside noEngine,
    fun _ _ _ held engine empty => exec_fin_of_not_valid held engine empty,
    fun _ _ _ held engine valid => exec_fin_of_valid held engine valid,
    fun _ _ _ first opcode => step_of_withReserved first (decode_fin opcode), by decide, by decide,
    fun _ => ⟨BitVec.xor_zero, BitVec.xor_allOnes⟩⟩

theorem exec_selftest_of_built (engine : s.built = true) :
    exec .selftest s = .next (s.answer (resultOf s .selftest)) :=
  checkBuilt_of_true engine

theorem specUpd_eq_upd (s : State) (r : Word) (b : Byte) : specUpd s r b = s.upd r b := by
  simp only [State.upd, updByte, index_eq_high_xor]
  rfl

/-- Settles O29: the nine updates are `updseq` of the check message, and the example is R148's engine. -/
theorem selftestComparesTheCheckValue : Obligations.SelftestComparesTheCheckValue := by
  unfold Obligations.SelftestComparesTheCheckValue
  refine ⟨fun _ noEngine => checkBuilt_eq_failed noEngine, fun s engine => ?_,
    fun _ _ _ first opcode => step_of_withReserved first (decode_selftest opcode), by decide,
    fun s table init refin refout xorout engine check => ?_⟩
  · simp only [specUpd_eq_upd]
    exact ⟨rfl, exec_selftest_of_built engine⟩
  · have value := referenceCheckValues.1 s table init refin refout xorout
    have result : resultOf s .selftest = ⟨.ok, true, 0x31C3⟩ := by
      rw [resultOf, value, check]
      rfl
    rw [exec_selftest_of_built engine, result]
    rfl

theorem finWord_eq_xorout_iff (refout : Bool) (xorout r : Word) :
    finWord refout xorout r = xorout ↔ r = 0 := by
  have mask := BitVec.xor_left_inj (x := if refout then reflect16 r else r) (y := 0#16) xorout
  rw [BitVec.zero_xor] at mask
  refine mask.trans ?_
  cases refout with
  | true => exact BitVec.reverse_eq_zero_iff
  | false => exact Iff.rfl

/-- Settles O31: INIT leaves ENG_INIT in the context, which FIN finishes. -/
theorem emptyMessageChecksum : Obligations.EmptyMessageChecksum := by
  unfold Obligations.EmptyMessageChecksum
  intro s t n inside engine started
  refine ⟨rfl, finWord_eq_xorout_iff s.engRefout s.engXorout s.engInit, ?_⟩
  cases (exec_init_of_built inside engine).symm.trans started
  have held : ((s.writeContext n s.engInit).respond 0).contexts[n.toNat]? = some ⟨s.engInit, true⟩ :=
    List.getElem?_set_self inside
  have finished : ((s.writeContext n s.engInit).respond 0).finish s.engInit = s.crc [] := rfl
  rw [exec_fin_of_valid held engine rfl, finished]
  rfl

/-! ### The host's side of the state -/

/-- `s` with other coming host actions and other earlier responses. -/
def withHostSide (s : State) (port : List HostAction) (log : List Response) : State :=
  { s with port := port, responses := log }

/-- `f`, a part of the meaning of a command, has one next state and one response on `s` whatever the host's
side. -/
def HostBlind (s : State) (f : State → Result) : Prop :=
  ∃ t r, ∀ port log, f (withHostSide s port log) = .next (withHostSide t port (log ++ [r]))

theorem hostBlind_raise (s : State) (e : ErrCode) (w : Command) : HostBlind s fun u => u.raise e w :=
  ⟨failed e w s, errResp e, fun _ _ => raise_eq _ e w⟩

theorem HostBlind.congr {f g : State → Result} (blind : HostBlind s g)
    (agree : ∀ port log, f (withHostSide s port log) = g (withHostSide s port log)) : HostBlind s f := by
  obtain ⟨t, r, answers⟩ := blind
  exact ⟨t, r, fun port log => (agree port log).trans (answers port log)⟩

/-- A write and an answer that neither read nor write the host's side. -/
theorem hostBlind_answer {f : State → State} {g : State → Response}
    (writes : ∀ port log, f (withHostSide s port log) = withHostSide (f s) port log)
    (answers : ∀ port log, g (withHostSide s port log) = g s) :
    HostBlind s fun u => .next ((f u).answer (g u)) := by
  refine ⟨f s, g s, fun port log => ?_⟩
  simp only [writes, answers]
  rfl

theorem hostBlind_checkCtx {f : Context → State → Result} (next : ∀ c, HostBlind s (f c)) :
    HostBlind s fun u => u.checkCtx w n fun c => f c u := by
  cases held : s.contexts[n.toNat]? with
  | none =>
    have outside : s.nctx ≤ n.toNat := (context?_eq_none_iff s n).1 held
    exact (hostBlind_raise s .badctx w).congr fun _ _ => checkCtx_of_none outside
  | some c => exact (next c).congr fun _ _ => checkCtx_of_some held

theorem hostBlind_checkBuilt {f : State → Result} (next : HostBlind s f) :
    HostBlind s fun u => u.checkBuilt w (f u) := by
  cases engine : s.built with
  | true => exact next.congr fun _ _ => checkBuilt_of_true engine
  | false => exact (hostBlind_raise s .notbuilt w).congr fun _ _ => checkBuilt_of_false engine

theorem hostBlind_checkValid {f : State → Result} (next : HostBlind s f) :
    HostBlind s fun u => u.checkValid w c (f u) := by
  cases valid : c.valid with
  | true => exact next.congr fun _ _ => checkValid_of_true valid
  | false => exact (hostBlind_raise s .uninit w).congr fun _ _ => checkValid_of_false valid

/-- No command reads or writes the host's side, beyond adding its response. -/
theorem hostBlind_exec (i : Instr) (s : State) : HostBlind s (exec i) := by
  cases i with
  | setpoly v | setinit v | setxor v | setchk v | setref ri ro | build =>
    exact hostBlind_answer (fun _ _ => rfl) fun _ _ => rfl
  | init n =>
    exact hostBlind_checkCtx fun _ => hostBlind_checkBuilt <| hostBlind_answer (fun _ _ => rfl) fun _ _ => rfl
  | updb n b | fin n =>
    refine hostBlind_checkCtx fun c => hostBlind_checkBuilt <| hostBlind_checkValid ?_
    exact hostBlind_answer (fun _ _ => rfl) fun _ _ => rfl
  | rdreg n =>
    refine hostBlind_checkCtx fun c => hostBlind_checkValid ?_
    exact hostBlind_answer (fun _ _ => rfl) fun _ _ => rfl
  | wrreg n v => exact hostBlind_checkCtx fun _ => hostBlind_answer (fun _ _ => rfl) fun _ _ => rfl
  | tblrd b | selftest => exact hostBlind_checkBuilt <| hostBlind_answer (fun _ _ => rfl) fun _ _ => rfl
  | rdcr sel =>
    cases selected : s.selected sel with
    | none => exact (hostBlind_raise s .illegal _).congr fun _ _ => exec_rdcr_of_none selected
    | some v =>
      have answered : HostBlind s fun u => .next (u.respond32 v) :=
        hostBlind_answer (fun _ _ => rfl) fun _ _ => rfl
      exact answered.congr fun _ _ => exec_rdcr_of_some selected

/-- Settles O47: `HostBlind` of the whole command. -/
theorem responseDependsOnStateAndWordOnly : Obligations.ResponseDependsOnStateAndWordOnly := by
  unfold Obligations.ResponseDependsOnStateAndWordOnly
  exact hostBlind_exec

end Sys2Proof.Proofs.DatapathRules

/-! The access rules (42_access.md): RDREG and WRREG reach a context register with or without an engine (R170,
R172), TBLRD reads an entry of the built table (R174), and RDCR the register it selects (R176). -/
namespace Sys2Proof.Proofs.AccessRules
open Sys2Proof.Machine Sys2Proof.Safety Sys2Proof.Proofs.StateRules Sys2Proof.Proofs.MemoryRules
open Sys2Proof.Proofs.EncodingRules Sys2Proof.Proofs.ConfigurationRules Sys2Proof.Proofs.DatapathRules

variable {s t : State} {n : CtxNum} {c : Context} {w : Command} {v : Word} {sel : Sel}
  {rest : List HostAction}

/-! ### The step on a word of one opcode -/

theorem decode_rdreg (opcode : opField w = 0xA) : decode w = decodeC w .rdreg := by
  rw [decode, opcode]; rfl

theorem decode_wrreg (opcode : opField w = 0xB) : decode w = decodeCI w .wrreg := by
  rw [decode, opcode]; rfl

theorem decode_tblrd (opcode : opField w = 0xC) : decode w = decodeX w .tblrd := by
  rw [decode, opcode]; rfl

theorem decode_rdcr (opcode : opField w = 0xE) : decode w = decodeS w .rdcr := by
  rw [decode, opcode]; rfl

/-! ### The context registers -/

theorem exec_rdreg_of_valid (held : s.contexts[n.toNat]? = some c) (valid : c.valid = true) :
    exec (.rdreg n) s = .next (s.respond c.value) :=
  (checkCtx_of_some held).trans (checkValid_of_true valid)

/-- A written context holds the value, with VALID set (42_access.md R172). -/
theorem held_of_wrreg (written : exec (.wrreg n v) s = .next t) (inside : n.toNat < s.nctx) :
    t.contexts[n.toNat]? = some ⟨v, true⟩ := by
  cases (exec_wrreg_of_lt inside v).symm.trans written
  exact List.getElem?_set_self inside

/-- WRREG touches no engine register, so FIN finishes every register as before. -/
theorem finish_of_wrreg (written : exec (.wrreg n v) s = .next t) (r : Word) : t.finish r = s.finish r := by
  obtain ⟨_, _, xorout, _, _, refout, _, _⟩ :=
    engineWrittenOnlyByBuild (.wrreg n v) s t (by simp) written
  rw [State.finish, xorout, refout, State.finish]

/-- Settles O35: j holds all of the context that i holds, under the same engine. -/
theorem savedRegisterResumesElsewhere : Obligations.SavedRegisterResumesElsewhere := by
  unfold Obligations.SavedRegisterResumesElsewhere
  rintro s t i j ⟨v, _⟩ engine held rfl inside written
  have restored := held_of_wrreg written inside
  have engine' : t.built = true := (exec_built_iff written).2 (.inr engine)
  have finished := exec_fin_of_valid restored engine' rfl
  rw [finish_of_wrreg written] at finished
  exact ⟨exec_rdreg_of_valid held rfl, restored, _, finished, exec_fin_of_valid held engine rfl⟩

/-- INIT and one UPDB per byte leave `updseq` of ENG_INIT in the context. -/
theorem runSteps_init_upds (bytes : List Byte) (inside : n.toNat < s.nctx) (engine : s.built = true)
    (commands : s.port = presenting (.init n :: updsExpansion n bytes) rest) :
    runSteps (bytes.length + 1) s =
      .next (computed s n (s.updseq s.engInit bytes) rest (1 + bytes.length)) := by
  have updates :=
    runSteps_upds (s := computed s n s.engInit (presenting (updsExpansion n bytes) rest) 1) bytes engine
      (context_computed inside _ _) rfl
  rw [computed_computed] at updates
  exact (runSteps_of_exec commands rfl (exec_init_of_built inside engine)).trans updates

/-- RDREG after INIT and the UPDBs answers the register they leave, which no FIN has touched (42_access.md
R170). -/
theorem responses_of_init_upds_rdreg (bytes : List Byte) (inside : n.toNat < s.nctx) (engine : s.built = true)
    (commands : s.port = presenting (.init n :: updsExpansion n bytes) (presenting [.rdreg n] rest)) :
    ∃ t, runSteps (bytes.length + 2) s = .next t ∧
      t.responses = s.responses ++ List.replicate (1 + bytes.length) (okResp 0) ++
        [okResp ((s.updseq s.engInit bytes).setWidth 32)] := by
  have held := context_computed (rest := rest) inside (s.updseq s.engInit bytes) (1 + bytes.length)
  have fed := runSteps_init_upds bytes inside engine commands
  have read := exec_rdreg_of_valid held rfl
  have run :=
    calc runSteps (bytes.length + 1 + 1) s
      _ = runSteps 1 _ := runSteps_add_of_run fed
      _ = runSteps 0 _ := runSteps_of_exec rfl rfl read
  exact ⟨_, run, rfl⟩

/-- Settles O36: the two checks in order, then an answer; the example runs the bitwise form. -/
theorem rdregAnswersTheRegister : Obligations.RdregAnswersTheRegister := by
  unfold Obligations.RdregAnswersTheRegister
  refine ⟨fun _ _ outside => checkCtx_eq_failed outside,
    fun _ _ _ held empty => exec_rdreg_of_not_valid held empty,
    fun _ _ _ held valid => exec_rdreg_of_valid held valid,
    fun _ _ _ first opcode => step_of_withReserved first (decode_rdreg opcode), by decide,
    fun s rest inv engine poly init refin inside commands => ?_⟩
  have updated : s.updseq s.engInit [0x31] = 0x2672 :=
    calc s.updseq s.engInit [0x31]
      _ = s.upd 0x0000 0x31 := by rw [init]; rfl
      _ = updBitwise 0x1021 0x0000 (inputByte false 0x31) := by
        rw [upd_eq_updBitwise inv engine poly, refin]
      _ = 0x2672 := by decide
  obtain ⟨t, run, responses⟩ := responses_of_init_upds_rdreg (n := 2) [0x31] inside engine commands
  rw [updated, List.append_assoc] at responses
  exact ⟨t, run, responses⟩

/-- Settles O37: one check, then the write, which is INIT's if the value is ENG_INIT. -/
theorem wrregWritesTheRegister : Obligations.WrregWritesTheRegister := by
  unfold Obligations.WrregWritesTheRegister
  refine ⟨fun _ _ _ outside => checkCtx_eq_failed outside, fun _ v _ inside => exec_wrreg_of_lt inside v,
    fun _ s inside engine => (exec_wrreg_of_lt inside s.engInit).trans (exec_init_of_built inside engine).symm,
    fun _ _ _ first opcode => step_of_withReserved first (decode_wrreg opcode), by decide,
    fun n v s t u _ build => ?_⟩
  cases build
  exact validAt_invalidateAll t.latchEngine n.toNat

/-! ### The table -/

theorem exec_tblrd_of_built (engine : s.built = true) (b : Byte) :
    exec (.tblrd b) s = .next (s.respond (s.tableAt b)) :=
  checkBuilt_of_true engine

/-- Under the invariant TBLRD answers the entry of ENG_POLY's table (10_state.md R29). -/
theorem exec_tblrd_of_inv (inv : Inv s) (engine : s.built = true) (b : Byte) :
    exec (.tblrd b) s = .next (s.respond (tableEntry s.engPoly b)) := by
  rw [exec_tblrd_of_built engine, State.tableAt, lookup_eq_tableEntry inv engine rfl]

/-- Settles O38: the engine check, then an answer; the entries are those of ENG_POLY's table. -/
theorem tblrdAnswersTheEntry : Obligations.TblrdAnswersTheEntry := by
  unfold Obligations.TblrdAnswersTheEntry
  refine ⟨fun _ _ noEngine => checkBuilt_eq_failed noEngine, fun b _ engine => exec_tblrd_of_built engine b,
    fun s inv engine => ⟨?_, ?_, fun poly => ?_⟩,
    fun _ _ _ first opcode => step_of_withReserved first (decode_tblrd opcode), by decide⟩
  · rw [exec_tblrd_of_inv inv engine, tableEntry_zero]
    rfl
  · rw [exec_tblrd_of_inv inv engine, tableEntry_one]
    rfl
  · have entry : tableEntry 0x1021 0xFF = 0x1EF0 := by decide
    have answers := exec_tblrd_of_inv inv engine 0xFF
    rwa [poly, entry] at answers

/-! ### The selected register -/

/-- Every selector of a legal RDCR names a register (30_encoding.md R86). -/
theorem exec_rdcr_of_le (bound : sel.toNat ≤ 12) (s : State) :
    exec (.rdcr sel) s = .next (s.respond32 (specSelected s sel.toNat)) := by
  cases selected : s.selected sel with
  | none => exact absurd (decide_eq_true bound) (not_wellFormed_of_selected_none selected)
  | some v => rw [exec_rdcr_of_some selected, specSelected_of_selected selected]

theorem selected_eq_none (reserved : 13 ≤ sel.toNat) (s : State) : s.selected sel = none := by
  have bound : sel.toNat < 16 := sel.isLt
  unfold State.selected
  interval_cases sel.toNat <;> rfl

/-- Format S checks SEL beside the reserved bits (30_encoding.md R85, R86). -/
theorem step_of_rdcr_word (first : s.port = .command w :: rest) (opcode : opField w = 0xE) :
    step s =
      if w.extractLsb' 4 24 = 0#24 ∧ (selField w).toNat ≤ 12 then
        exec (.rdcr (selField w)) { s with port := rest }
      else .next (failed .illegal w { s with port := rest }) := by
  by_cases bound : (selField w).toNat ≤ 12
  · simp only [bound, and_true]
    exact step_of_withReserved first ((decode_rdcr opcode).trans (if_pos bound))
  · rw [if_neg fun legality => bound legality.2]
    exact step_of_decode_error first ((decode_rdcr opcode).trans (if_neg bound))

/-- STATUS reads 0 after every reset: nothing is built, recorded or valid (10_state.md R36). -/
theorem statusWord_resetWith (nctx resets : Nat) : (State.resetWith nctx resets).statusWord = 0 := by
  have noContext : (State.resetWith nctx resets).validBits = 0 := by
    apply BitVec.eq_of_getLsbD_eq
    intro k bound
    rw [validBits_getLsbD bound, validAt_resetWith]
    exact BitVec.getLsbD_zero.symm
  rw [State.statusWord, noContext]
  show 0#16 ++ 0#8 ++ ErrCode.ok.bits ++ 0#3 ++ BitVec.ofBool false = 0#32
  decide

/-- Settles O39: 0 to 12 name a register and 13 to 15 none; STATUS at reset by `statusWord_resetWith`. -/
theorem rdcrAnswersTheSelectedRegister : Obligations.RdcrAnswersTheSelectedRegister := by
  unfold Obligations.RdcrAnswersTheSelectedRegister
  refine ⟨fun _ s bound => exec_rdcr_of_le bound s, fun sel s reserved => ?_,
    fun _ _ _ first opcode => step_of_rdcr_word first opcode, by decide, ?_⟩
  · rw [exec_rdcr_of_none (selected_eq_none reserved s)]
    exact raise_eq s _ _
  · have status : State.reset.selected 0 = some 0 := congrArg some (statusWord_resetWith Config.nctx 0)
    exact exec_rdcr_of_some status

end Sys2Proof.Proofs.AccessRules

/-! The exception rules (60_exceptions.md): which error a word meets (R201 to R204, R207), that the step is the
complete step of R209, and from there what a failure leaves and records (R205, R206, R208). Every command leaves
what `specStep` says of its word (`exec_eq_specStep`), and so does every presented word (`step_of_command`). -/
namespace Sys2Proof.Proofs.ExceptionRules
open Sys2Proof.Machine Sys2Proof.Safety Sys2Proof.Proofs.StateRules Sys2Proof.Proofs.MemoryRules
open Sys2Proof.Proofs.EncodingRules Sys2Proof.Proofs.ConfigurationRules Sys2Proof.Proofs.DatapathRules
open Sys2Proof.Proofs.AccessRules

variable {s t : State} {i : Instr} {n : CtxNum} {e : ErrCode} {w : Command} {rest : List HostAction}
  {r : Response}

/-- Settles O7, which is the step's own case of a word that decodes. -/
theorem stepRunsTheDecodedCommand : Obligations.StepRunsTheDecodedCommand := by
  unfold Obligations.StepRunsTheDecodedCommand
  exact fun s w rest i first decoded => step_of_decode first decoded

theorem step_of_idle (idle : s.port = []) : step s = .next s := by
  simp only [step, State.take, idle]

/-- Settles O9: the step takes nothing from an empty port. -/
theorem idleKeepsAllState : Obligations.IdleKeepsAllState := by
  unfold Obligations.IdleKeepsAllState
  exact fun s idle => step_of_idle idle

/-! ### Which error a word meets -/

/-- The word names a context, and there is none of that number (60_exceptions.md R204). -/
def CtxOutside (s : State) (w : Command) : Prop := opField w ∈ ctxOps ∧ s.nctx ≤ (ctxField w).toNat

/-- The word needs an engine, and none is built (60_exceptions.md R202). -/
def EngineMissing (s : State) (w : Command) : Prop := opField w ∈ engineOps ∧ s.built = false

/-- The word reads a context, and that holds no value (60_exceptions.md R203). -/
def CtxEmpty (s : State) (w : Command) : Prop := opField w ∈ validOps ∧ validAt s (ctxField w).toNat = false

/-- Each code under its own condition and that of no earlier code (60_exceptions.md R207). -/
inductive Meets (s : State) (w : Command) : ErrCode → Prop where
  | illegal (notLegal : legal w = false) : Meets s w .illegal
  | badctx (legality : legal w = true) (outside : CtxOutside s w) : Meets s w .badctx
  | notbuilt (legality : legal w = true) (inside : ¬CtxOutside s w) (missing : EngineMissing s w) :
      Meets s w .notbuilt
  | uninit (legality : legal w = true) (inside : ¬CtxOutside s w) (engine : ¬EngineMissing s w)
      (empty : CtxEmpty s w) : Meets s w .uninit
  | ok (legality : legal w = true) (inside : ¬CtxOutside s w) (engine : ¬EngineMissing s w)
      (filled : ¬CtxEmpty s w) : Meets s w .ok

theorem meets_errorOf (s : State) (w : Command) : Meets s w (errorOf s w) := by
  rw [errorOf]
  split_ifs with notLegal outside missing empty
  · exact .illegal notLegal
  · exact .badctx (Bool.eq_true_of_not_eq_false notLegal) outside
  · exact .notbuilt (Bool.eq_true_of_not_eq_false notLegal) outside missing
  · exact .uninit (Bool.eq_true_of_not_eq_false notLegal) outside missing empty
  · exact .ok (Bool.eq_true_of_not_eq_false notLegal) outside missing empty

/-- The conditions of R207 decide the code. -/
theorem Meets.code_iff (meets : Meets s w e) :
    (e = .illegal ↔ legal w = false) ∧
    (e = .badctx ↔ legal w = true ∧ CtxOutside s w) ∧
    (e = .notbuilt ↔ legal w = true ∧ ¬CtxOutside s w ∧ EngineMissing s w) ∧
    (e = .uninit ↔ legal w = true ∧ ¬CtxOutside s w ∧ ¬EngineMissing s w ∧ CtxEmpty s w) := by
  cases meets <;> simp [*]

/-- A context number has four bits, so 16 contexts have none outside (60_exceptions.md R204). -/
theorem not_ctxOutside_of_sixteen (sixteen : s.nctx = 16) : ¬CtxOutside s w := by
  rintro ⟨_, outside⟩
  have bound : (ctxField w).toNat < 16 := (ctxField w).isLt
  omega

/-! ### The conditions of a command's own word -/

theorem opcodeOf_mem {ops : List (BitVec 4)} (op : opField (encode i) ∈ ops) : opcodeOf i ∈ ops :=
  opField_encode i ▸ op

theorem opField_mem {ops : List (BitVec 4)} (op : opcodeOf i ∈ ops) : opField (encode i) ∈ ops :=
  (opField_encode i).symm ▸ op

theorem exists_addressed_of_ctxOutside (outside : CtxOutside s (encode i)) :
    ∃ n, Addresses n i ∧ s.nctx ≤ n.toNat := by
  obtain ⟨op, outside⟩ := outside
  exact ⟨_, (addresses_iff _ i).2 ⟨opcodeOf_mem op, rfl⟩, outside⟩

theorem lt_nctx_of_not_ctxOutside (inside : ¬CtxOutside s (encode i)) (named : Addresses n i) :
    n.toNat < s.nctx := by
  obtain ⟨op, rfl⟩ := (addresses_iff n i).1 named
  exact Nat.lt_of_not_le fun outside => inside ⟨opField_mem op, outside⟩

theorem built_of_not_engineMissing (engine : ¬EngineMissing s (encode i))
    (needsEngine : opcodeOf i ∈ engineOps) : s.built = true :=
  Bool.eq_true_of_not_eq_false fun missing => engine ⟨opField_mem needsEngine, missing⟩

theorem mem_ctxOps_of_mem_validOps {op : BitVec 4} (reads : op ∈ validOps) : op ∈ ctxOps := by
  revert op
  decide

/-- The context of a number in range, with its VALID bit. -/
theorem exists_held (inside : n.toNat < s.nctx) :
    ∃ v, s.contexts[n.toNat]? = some ⟨v, validAt s n.toNat⟩ := by
  have held := List.getElem?_eq_getElem inside
  exact ⟨s.contexts[n.toNat].value, by rw [validAt_of_held held, held]⟩

/-- The context that a command is refused to read. -/
theorem exists_empty_of_ctxEmpty (inside : ¬CtxOutside s (encode i)) (empty : CtxEmpty s (encode i)) :
    opcodeOf i ∈ validOps ∧ ∃ n v, Addresses n i ∧ s.contexts[n.toNat]? = some ⟨v, false⟩ := by
  obtain ⟨op, empty⟩ := empty
  have reads := opcodeOf_mem op
  have named := (addresses_iff _ i).2 ⟨mem_ctxOps_of_mem_validOps reads, rfl⟩
  obtain ⟨v, held⟩ := exists_held (lt_nctx_of_not_ctxOutside inside named)
  rw [empty] at held
  exact ⟨reads, _, v, named, held⟩

/-- The context that a command may read. -/
theorem exists_filled_of_not_ctxEmpty (inside : ¬CtxOutside s (encode i)) (filled : ¬CtxEmpty s (encode i))
    (reads : opcodeOf i ∈ validOps) (named : Addresses n i) :
    ∃ v, s.contexts[n.toNat]? = some ⟨v, true⟩ := by
  obtain ⟨v, held⟩ := exists_held (lt_nctx_of_not_ctxOutside inside named)
  obtain ⟨_, rfl⟩ := (addresses_iff n i).1 named
  rw [Bool.eq_true_of_not_eq_false fun empty => filled ⟨opField_mem reads, empty⟩] at held
  exact ⟨v, held⟩

/-! ### What a command leaves -/

/-- A command whose word meets an error fails with it and does nothing else (60_exceptions.md R205). -/
theorem exec_eq_failed (meets : Meets s (encode i) e) (error : e ≠ .ok) :
    exec i s = .next (failed e (encode i) s) := by
  cases meets with
  | illegal notLegal =>
    rw [legal_encode] at notLegal
    cases i with
    | rdcr sel =>
      have reserved : 13 ≤ sel.toNat := Nat.lt_of_not_le (of_decide_eq_false notLegal)
      exact (exec_rdcr_of_none (selected_eq_none reserved s)).trans (raise_eq s _ _)
    | _ => cases notLegal
  | badctx _ outside =>
    obtain ⟨n, named, large⟩ := exists_addressed_of_ctxOutside outside
    cases i with
    | init | updb | fin | rdreg | wrreg =>
      cases named
      exact checkCtx_eq_failed large
    | _ => exact named.elim
  | notbuilt _ inside missing =>
    obtain ⟨op, noEngine⟩ := missing
    have needsEngine := opcodeOf_mem op
    cases i with
    | init | updb | fin => exact checkCtx_checkBuilt_eq_failed (lt_nctx_of_not_ctxOutside inside rfl) noEngine
    | tblrd | selftest => exact checkBuilt_eq_failed noEngine
    | _ => simp [opcodeOf, engineOps] at needsEngine
  | uninit _ inside engine empty =>
    obtain ⟨reads, n, v, named, held⟩ := exists_empty_of_ctxEmpty inside empty
    have built := built_of_not_engineMissing engine
    cases i with
    | updb _ b =>
      cases named
      exact exec_updb_of_not_valid held (built (by simp [opcodeOf, engineOps])) rfl b
    | fin =>
      cases named
      exact exec_fin_of_not_valid held (built (by simp [opcodeOf, engineOps])) rfl
    | rdreg =>
      cases named
      exact exec_rdreg_of_not_valid held rfl
    | _ => simp [opcodeOf, validOps] at reads
  | ok => exact absurd rfl error

/-- What each command writes, but for its response (40_configuration.md R100 to R104, R114; 41_crc_datapath.md
R133, R136; 42_access.md R172). -/
def written (s : State) : Instr → State
  | .setpoly v => { s with cfgPoly := v }
  | .setinit v => { s with cfgInit := v }
  | .setxor v => { s with cfgXorout := v }
  | .setchk v => { s with cfgCheck := v }
  | .setref ri ro => { s with cfgRefin := ri, cfgRefout := ro }
  | .build => s.latchEngine.invalidateAll
  | .init n => s.writeContext n s.engInit
  | .updb n b => s.writeContext n (s.upd (valueAt s n.toNat) b)
  | .wrreg n v => s.writeContext n v
  | _ => s

theorem written_updb (s : State) (n : CtxNum) (b : Byte) :
    written s (.updb n b) = s.writeContext n (s.upd (valueAt s n.toNat) b) := rfl

/-- No command writes the log or the first-error record itself: its answer and its failure do. -/
theorem written_host (s : State) (i : Instr) :
    (written s i).responses = s.responses ∧ (written s i).errcode = s.errcode ∧
      (written s i).errcmd = s.errcmd := by
  cases i <;> exact ⟨rfl, rfl, rfl⟩

/-- The state a command leaves that meets no error. -/
def executed (s : State) (i : Instr) : State := (written s i).answer (resultOf s i)

/-- A command whose word meets no error writes and answers what its rule says. -/
theorem exec_eq_executed (meets : Meets s (encode i) .ok) : exec i s = .next (executed s i) := by
  cases meets with | ok legality inside engine filled => ?_
  have within (n : CtxNum) (named : Addresses n i) := lt_nctx_of_not_ctxOutside inside named
  have built := built_of_not_engineMissing engine
  have readable (reads : opcodeOf i ∈ validOps) (n : CtxNum) (named : Addresses n i) :=
    exists_filled_of_not_ctxEmpty inside filled reads named
  cases i with
  | setpoly | setinit | setxor | setchk | setref | build => rfl
  | init n => exact exec_init_of_built (within n rfl) (built (by simp [opcodeOf, engineOps]))
  | updb n b =>
    obtain ⟨v, held⟩ := readable (by simp [opcodeOf, validOps]) n rfl
    rw [exec_updb_of_valid held (built (by simp [opcodeOf, engineOps])) rfl, executed, written_updb,
      valueAt_of_held held]
    rfl
  | fin n =>
    obtain ⟨v, held⟩ := readable (by simp [opcodeOf, validOps]) n rfl
    rw [exec_fin_of_valid held (built (by simp [opcodeOf, engineOps])) rfl, executed, resultOf,
      valueAt_of_held held]
    rfl
  | rdreg n =>
    obtain ⟨v, held⟩ := readable (by simp [opcodeOf, validOps]) n rfl
    rw [exec_rdreg_of_valid held rfl, executed, resultOf, valueAt_of_held held]
    rfl
  | wrreg n v => exact exec_wrreg_of_lt (within n rfl) v
  | tblrd b => exact exec_tblrd_of_built (built (by simp [opcodeOf, engineOps])) b
  | selftest => exact exec_selftest_of_built (built (by simp [opcodeOf, engineOps]))
  | rdcr sel =>
    rw [legal_encode] at legality
    exact exec_rdcr_of_le (of_decide_eq_true legality) s

/-! ### The complete step -/

/-- The table written out in R209 is the built one (40_configuration.md R110). -/
theorem ofFn_tableEntry (p : Word) :
    (Vector.ofFn fun n : Fin 256 => tableEntry p (BitVec.ofNat 8 n)) = buildTable p := by
  refine table_ext fun b => ?_
  rw [lookup_buildTable]
  simp [lookup]

theorem specUpd_eq (s : State) : specUpd s = s.upd := funext₂ (specUpd_eq_upd s)

/-- The rule of the opcode, over the bits of the word, is the rule of the command the word decodes to. -/
theorem specExecute_of_decode (decoded : decode w = .ok i) : specExecute s w = executed s i := by
  unfold decode at decoded
  generalize opcode : (opField w).toNat = number at decoded
  have opcode' : (w.extractLsb' 28 4).toNat = number := opcode
  simp only [specExecute, opcode']
  split at decoded
  case h_14 => -- RDCR, whose format checks SEL too
    unfold decodeS at decoded
    split at decoded
    · obtain ⟨_, rfl⟩ := withReserved_eq_ok decoded
      rfl
    · cases decoded
  case h_15 => cases decoded
  all_goals obtain ⟨_, rfl⟩ := withReserved_eq_ok decoded
  case h_6 => -- BUILD, with the table written out
    rw [ofFn_tableEntry]
    rfl
  case h_8 | h_13 => -- UPDB and SELFTEST, with the update written out
    rw [specUpd_eq]
    rfl
  all_goals rfl

theorem specStep_of_ok (ok : errorOf s w = .ok) : specStep s w = specExecute s w := by
  simp only [specStep, ok]

theorem specStep_of_error (error : errorOf s w ≠ .ok) : specStep s w = failed (errorOf s w) w s := by
  unfold specStep
  split
  · next ok => exact absurd ok error
  · rfl

/-- A word that meets no error decodes (30_encoding.md R83). -/
theorem exists_decode_of_ok (ok : errorOf s w = .ok) : ∃ i, decode w = .ok i := by
  have meets := ok ▸ meets_errorOf s w
  cases meets with | ok legality => exact (exists_decode_iff_legal w).2 legality

/-- Every command leaves what R209 says of its word. -/
theorem exec_eq_specStep (i : Instr) (s : State) : exec i s = .next (specStep s (encode i)) := by
  have meets := meets_errorOf s (encode i)
  by_cases ok : errorOf s (encode i) = .ok
  · rw [ok] at meets
    have wellFormed : i.WellFormed := by
      cases meets with | ok legality => exact (legal_encode i).symm.trans legality
    rw [exec_eq_executed meets, specStep_of_ok ok, specExecute_of_decode (decode_encode wellFormed)]
  · rw [exec_eq_failed meets ok, specStep_of_error ok]

/-- A step on a presented word leaves what R209 says of the word. -/
theorem step_of_command (first : s.port = .command w :: rest) :
    step s = .next (specStep { s with port := rest } w) := by
  cases decoded : decode w with
  | ok i => rw [step_of_decode first decoded, exec_eq_specStep, encode_of_decode decoded]
  | error d =>
    obtain ⟨illegal, _⟩ := (meets_errorOf { s with port := rest } w).code_iff
    have code := illegal.2 (legal_eq_false_of_decode_error decoded)
    rw [step_of_decode_error first decoded, specStep_of_error (by simp [code]), code]

/-- Settles O8: `exec_eq_specStep` for the words that decode, and ILLEGAL for the others. -/
theorem stepIsTheCompleteStep : Obligations.StepIsTheCompleteStep := by
  unfold Obligations.StepIsTheCompleteStep
  exact fun s w rest first => step_of_command first

/-! ### The response and the first-error record -/

/-- The word `w` takes the state `s` to `t` with the response `r`, whose status is the error the word meets; the
record is written by a failure only, which writes nothing else (60_exceptions.md R205, R206). -/
structure Answered (s : State) (w : Command) (t : State) (r : Response) : Prop where
  responses : t.responses = s.responses ++ [r]
  status : r.status = errorOf s w
  unrecorded : r.status = .ok → t.errcode = s.errcode ∧ t.errcmd = s.errcmd
  precise : r.status ≠ .ok → r = errResp r.status ∧ t = failed r.status w s

theorem exists_answered_specStep (s : State) (w : Command) : ∃ r, Answered s w (specStep s w) r := by
  by_cases ok : errorOf s w = .ok
  · obtain ⟨i, decoded⟩ := exists_decode_of_ok ok
    obtain ⟨log, code, word⟩ := written_host s i
    have status := status_resultOf s i
    rw [specStep_of_ok ok, specExecute_of_decode decoded]
    exact ⟨resultOf s i, congrArg (· ++ [_]) log, status.trans ok.symm, fun _ => ⟨code, word⟩,
      fun error => absurd status error⟩
  · rw [specStep_of_error ok]
    exact ⟨errResp (errorOf s w), rfl, rfl, fun succeeds => absurd succeeds ok, fun _ => ⟨rfl, rfl⟩⟩

theorem answered_of_exec (h : exec i s = .next t) : ∃ r, Answered s (encode i) t r := by
  cases (exec_eq_specStep i s).symm.trans h
  exact exists_answered_specStep s (encode i)

theorem answered_of_step (first : s.port = .command w :: rest) (h : step s = .next t) :
    ∃ r, Answered { s with port := rest } w t r := by
  cases (step_of_command first).symm.trans h
  exact exists_answered_specStep _ w

/-- A recorded error stays (60_exceptions.md R206). -/
theorem Answered.record_kept (answered : Answered s w t r) (recorded : s.errcode ≠ .ok) :
    t.errcode = s.errcode ∧ t.errcmd = s.errcmd := by
  by_cases ok : r.status = .ok
  · exact answered.unrecorded ok
  · obtain ⟨_, rfl⟩ := answered.precise ok
    exact ⟨if_neg recorded, if_neg recorded⟩

/-- A first error is recorded with its word (60_exceptions.md R206). -/
theorem Answered.record_written (answered : Answered s w t r) (clean : s.errcode = .ok)
    (error : r.status ≠ .ok) : t.errcode = r.status ∧ t.errcmd = w := by
  obtain ⟨_, rfl⟩ := answered.precise error
  exact ⟨if_pos clean, if_pos clean⟩

/-- Settles O13: the one response of the command is the given one. -/
theorem failuresArePrecise : Obligations.FailuresArePrecise := by
  unfold Obligations.FailuresArePrecise
  intro i s t r h responses error
  obtain ⟨r', answered⟩ := answered_of_exec h
  obtain rfl : r' = r := by simpa [answered.responses] using responses
  obtain ⟨response, rfl⟩ := answered.precise error
  refine ⟨response, ?_⟩
  rw [failed, ← response]

/-- Settles O15, by what each kind of answer does to the record. -/
theorem firstErrorRecordIsSticky : Obligations.FirstErrorRecordIsSticky := by
  unfold Obligations.FirstErrorRecordIsSticky
  intro s t w rest first h
  obtain ⟨r, answered⟩ := answered_of_step first h
  refine ⟨r, answered.responses, fun recorded => answered.record_kept recorded, fun clean ok => ?_,
    fun clean error => answered.record_written clean error⟩
  obtain ⟨code, word⟩ := answered.unrecorded ok
  exact ⟨code.trans clean, word⟩

theorem exec_updb_of_not_built (inside : n.toNat < s.nctx) (noEngine : s.built = false) (b : Byte) :
    exec (.updb n b) s = .next (failed .notbuilt (encode (.updb n b)) s) :=
  checkCtx_checkBuilt_eq_failed inside noEngine

/-- Settles O14: the status is the error that R207's order picks; the example has a context but no engine. -/
theorem errorsInPriorityOrder : Obligations.ErrorsInPriorityOrder := by
  unfold Obligations.ErrorsInPriorityOrder
  constructor
  · intro s w rest first
    have ran := step_of_command first
    obtain ⟨r, answered⟩ := answered_of_step first ran
    obtain ⟨illegal, badctx, notbuilt, uninit⟩ := (answered.status ▸ meets_errorOf _ w).code_iff
    refine ⟨_, r, ran, answered.responses, illegal, badctx, notbuilt, uninit, fun sixteen isBadctx => ?_⟩
    obtain ⟨_, outside⟩ := badctx.1 isBadctx
    exact not_ctxOutside_of_sixteen sixteen outside
  · have inside : (0 : CtxNum).toNat < State.reset.nctx := by rw [State.reset, Scope.resetWith_nctx]; decide
    exact exec_updb_of_not_built inside rfl 0x31

/-! ### The block after an error -/

theorem exists_step (s : State) : ∃ t, step s = .next t := by
  cases port : s.port with
  | nil => exact ⟨_, step_of_idle port⟩
  | cons action rest =>
    cases action with
    | command w => exact ⟨_, step_of_command port⟩
    | reset abandoned => exact ⟨_, step_of_reset port⟩

/-- `s` with another first-error record. -/
def withRecord (s : State) (e : ErrCode) (w : Command) : State := { s with errcode := e, errcmd := w }

/-- No check reads the record. -/
theorem Meets.withRecord (meets : Meets s w e) (code : ErrCode) (word : Command) :
    Meets (withRecord s code word) w e := by
  cases meets with
  | illegal notLegal => exact .illegal notLegal
  | badctx legality outside => exact .badctx legality outside
  | notbuilt legality inside missing => exact .notbuilt legality inside missing
  | uninit legality inside engine empty => exact .uninit legality inside engine empty
  | ok legality inside engine filled => exact .ok legality inside engine filled

/-- Only RDCR reads the record out (42_access.md R176). -/
theorem executed_withRecord (notRdcr : ∀ sel, i ≠ .rdcr sel) (s : State) (e : ErrCode) (w : Command) :
    executed (withRecord s e w) i = withRecord (executed s i) e w := by
  cases i with
  | rdcr sel => exact absurd rfl (notRdcr sel)
  | _ => rfl

/-- Settles O10: the record decides no check, and beyond RDCR's answer no result. -/
theorem errorsNeverStopTheBlock : Obligations.ErrorsNeverStopTheBlock := by
  unfold Obligations.ErrorsNeverStopTheBlock
  refine ⟨exists_step, fun i s t h recorded => ?_, fun i s e w notRdcr => ?_,
    fun s t abandoned rest first h => ?_⟩
  · obtain ⟨r, answered⟩ := answered_of_exec h
    exact answered.record_kept recorded
  · have meets := meets_errorOf s (encode i)
    have meets' := meets.withRecord e w
    by_cases ok : errorOf s (encode i) = .ok
    · rw [ok] at meets meets'
      have ran := exec_eq_executed meets'
      rw [executed_withRecord notRdcr] at ran
      exact ⟨_, _, exec_eq_executed meets, ran, rfl⟩
    · exact ⟨_, _, exec_eq_failed meets ok, exec_eq_failed meets' ok, rfl⟩
  · cases (step_of_reset first).symm.trans h
    exact ⟨rfl, rfl⟩

end Sys2Proof.Proofs.ExceptionRules

/-! The reset rules (70_reset_and_hazards.md): every register at its reset value, and nothing of the state
before but NCTX, the later host actions and the responses (R230). -/
namespace Sys2Proof.Proofs.ResetRules
open Sys2Proof.Machine Sys2Proof.Safety Sys2Proof.Proofs.StateRules

variable {s s' : State} {c : Context}

/-- No context is valid after reset, whatever value it holds (10_state.md R36, R38). -/
theorem valid_of_mem_resetContexts {nctx resets : Nat} (mem : c ∈ resetContexts nctx resets) :
    c.valid = false := by
  obtain ⟨_, _, rfl⟩ := List.mem_map.1 mem
  rfl

theorem applyReset_contexts_length (s : State) : s.applyReset.contexts.length = s.contexts.length :=
  Scope.resetWith_nctx s.nctx (s.resets + 1)

/-- Beyond the host's side (port and responses), the state before shows only in the number of contexts and in
the count of resets, which numbers the model's free values of TABLE and C[i] (10_state.md R37, R38). -/
theorem applyReset_eq_of_same_host (port : s'.port = s.port) (responses : s'.responses = s.responses) :
    s'.applyReset =
      { s.applyReset with
        table := s'.applyReset.table
        contexts := s'.applyReset.contexts
        resets := s'.applyReset.resets } := by
  simp only [State.applyReset, port, responses]
  rfl

/-- Settles O11: the step leaves `applyReset`, whose values are known field by field; another state with the
same host's side reaches the same one, whatever command either of them abandons. -/
theorem resetActionSetsResetValues : Obligations.ResetActionSetsResetValues := by
  unfold Obligations.ResetActionSetsResetValues
  intro s abandoned rest first
  refine ⟨_, step_of_reset first, rfl, rfl, rfl, rfl, rfl, rfl, rfl, rfl, rfl, rfl, rfl, rfl, rfl,
    applyReset_contexts_length _, fun c mem => valid_of_mem_resetContexts mem, rfl, rfl, rfl, rfl,
    fun s' abandoned' first' _ responses => ?_⟩
  exact ⟨_, step_of_reset first', applyReset_eq_of_same_host rfl responses⟩

end Sys2Proof.Proofs.ResetRules
